-- ==== Sys2Proof/Word.lean ====
section
/-! DEFINITION. The bit-vector types of the PJ460's serial words and the number of a slot. -/

namespace Sys2Proof

/-- A byte of a frame or of the configuration image (R195, R197). -/
abbrev Byte := BitVec 8

/-- A word of the station port (R177, R198), and the width of the millisecond clock and the plant counter (R21). -/
abbrev Word32 := BitVec 32

/-- A station's address on the lines, 0 to 7 (Introduction, Identifiers). -/
abbrev Slot := Fin 8

/-- The slots in rising order. -/
def slots : List Slot := [0, 1, 2, 3, 4, 5, 6, 7]

end Sys2Proof
end

