-- ==== Sys2Proof/Syntax.lean ====
section
/-! DEFINITION. The commands the PJ460 takes: one constructor for each row of spec/opcode_table.json. -/

namespace Sys2Proof

/-- The two station lines (R42). -/
inductive LineId where
  | line1
  | line2
deriving DecidableEq, Repr

/-- The drive's two reference switches (R27). -/
inductive RefSwitch where
  | valley
  | summit
deriving DecidableEq, Repr

/-- The four car detectors of the passing loop (R38). -/
inductive Detector where
  | daLow
  | daHigh
  | dbLow
  | dbHigh
deriving DecidableEq, Repr

/-- The four service brake stages, named by their weights (R161). -/
inductive Stage where
  | w1
  | w2
  | w4
  | w8
deriving DecidableEq, Repr

/-- The levels of the plant inputs (11.5): `true` is active, applied or closed. -/
structure PlantPins where
  /-- The quadrature counter: sheave encoder or odometer count (R21). -/
  counter : Word32
  valley : Bool
  summit : Bool
  stage1 : Bool
  stage2 : Bool
  stage4 : Bool
  stage8 : Bool
  brakeFeedback : Bool
  doorClosed : Bool
  daLow : Bool
  daHigh : Bool
  dbLow : Bool
  dbHigh : Bool
  emergencyStop : Bool
deriving DecidableEq, Repr

/-- The commands of the part. The thirteen port commands read the port's parameter words (R178), so they take no operand;
an expiry names the timer that ran out; an event on a pin or a line brings what the part reads there. -/
inductive Instr where
  /-- Supply below threshold or reset pin asserted (R189). -/
  | resetAssert
  /-- Reset released: the slot straps and the role straps are read (R189). -/
  | startUp (slotStraps : Slot) (roleStraps : Fin 8)
  /-- The image read ends: the bytes the configuration memory yields from byte 0 on, as far as it answers (R190), and the
  plant inputs as they stand (R192). -/
  | startUpComplete (image : List Byte) (pins : PlantPins)
  | listenPeriodExpiry
  /-- The sample timer expires and the counter reads `count` (R21). -/
  | sampleTimerExpiry (count : Word32)
  | standstillTimerExpiry
  /-- A reference switch goes active, with the counter at `count` (R27). -/
  | referenceSwitchActive (sw : RefSwitch) (count : Word32)
  | setPosition
  /-- The reader presents `code` (six code lines, 11.5), with the counter at `count` (R33). -/
  | markerArrival (code : BitVec 6) (count : Word32)
  | detectorActive (d : Detector)
  | detectorInactive (d : Detector)
  | stuckTimerExpiry (d : Detector)
  | recomputationTimerExpiry
  /-- A frame on a line: the bytes received after the line coding, and whether its delimiter was received (R51); what a receiver makes of
  the line's levels is Machine/LineCoding.lean's `readLevels` (R42). -/
  | frameArrival (line : LineId) (bytes : List Byte) (delimited : Bool)
  | lineIdle (line : LineId)
  | txStart (line : LineId)
  | txComplete (line : LineId)
  | arbitrationLost (line : LineId)
  | readbackDisagreement (line : LineId)
  | silenceTimerExpiry (line : LineId)
  | staleTimerExpiry (slot : Slot)
  | lostTimerExpiry (slot : Slot)
  | statusTimerExpiry
  | loadTimerExpiry
  | setLoad
  | requestRun
  | addHalt
  | callLoop
  | hold
  | release
  | abort
  | confirmReady
  | dispatchTimerExpiry
  | consentTimerExpiry
  | goGuardTimerExpiry
  /-- The door-closed input changes to `closed` (R170). -/
  | doorClosedChange (closed : Bool)
  /-- A stage feedback changes to `applied` (R162). -/
  | stageFeedbackChange (stage : Stage) (applied : Bool)
  | stageCheckTimerExpiry (stage : Stage)
  | emergencyBrakeFeedbackChange (applied : Bool)
  | emergencyBrakeTimerExpiry
  | emergencyStopInput
  | trip
  | resetTrip
  | unproveAll
  | setRestriction
  /-- WRITE_PARAM carrying the given parameter words, first word first (R178). -/
  | writeParam (words : List Word32)
  /-- WRITE_COMMAND with a command code that names no command (R179). -/
  | unknownCommand (code : Byte)
  | readResult
  | readEvent
  /-- READ_VIEW with its selector word (R183, R198). -/
  | readView (selector : Word32)
  /-- Select is released after `bits` bits of the reply were clocked out (R177). -/
  | readTransferEnd (bits : Nat)
  | referenceSwitchInactive (sw : RefSwitch)
  | emergencyStopInactive
  | lineStartBit (line : LineId)
deriving DecidableEq, Repr

end Sys2Proof
end

