-- ==== Sys2Proof/Decode.lean ====
section
/-! DEFINITION. The commands that words spell. No row of spec/opcode_table.json gives bits (every row's fields are empty), so no
table word spells a command. The words of a station port transfer spell one (R177, R198). The bytes of frames and of the image
are read in Machine/Operands.lean. -/

namespace Sys2Proof

/-- The command a word spells by the table's bits: the table gives no row any bits, so none. -/
def decodeTableWord (_nbits _w : Nat) : Option Instr := none

/-- Bits as the port samples them, bit 31 of a word first, made into whole words (R177); none where a word is cut short. `acc`
is the value of the `n` bits of the word begun. -/
def portWordsFrom (acc n : Nat) : List Bool → Option (List Word32)
  | [] => if n = 0 then some [] else none
  | b :: bs =>
    if n = 31 then (portWordsFrom 0 0 bs).map (BitVec.ofNat 32 (2 * acc + b.toNat) :: ·)
    else portWordsFrom (2 * acc + b.toNat) (n + 1) bs

/-- The words of a transfer's bits (R177). -/
def portWords (bits : List Bool) : Option (List Word32) := portWordsFrom 0 0 bits

/-- The bits of a word in the order in which the port carries them, bit 31 first (R177). -/
def wordBits (w : Word32) : List Bool := (List.range 32).map fun i => w.getLsbD (31 - i)

/-- The bits of words in the order in which the port carries them (R177). -/
def portBits (ws : List Word32) : List Bool := ws.flatMap wordBits

/-- The command of a command word: bits 7 to 0 are its code (R198, 10.3; R179). The other bits of the word are not read
(DEDUCED, log 46). -/
def commandOf (w : Word32) : Instr :=
  let code : Byte := w.truncate 8
  match code.toNat with
  | 1 => .requestRun
  | 2 => .addHalt
  | 3 => .callLoop
  | 4 => .hold
  | 5 => .release
  | 6 => .abort
  | 7 => .confirmReady
  | 8 => .setLoad
  | 9 => .setPosition
  | 10 => .setRestriction
  | 11 => .trip
  | 12 => .resetTrip
  | 13 => .unproveAll
  | _ => .unknownCommand code

/-- The command that a transfer's words from the station computer spell: an operation word with its code in bits 31 to 24 and
the other bits 0, then as many words as the operation allows (R177, R198). None: the transfer is ignored. -/
def transferCommand : List Word32 → Option Instr
  | [] => none
  | op :: rest =>
    if op.toNat % 16777216 ≠ 0 then none
    else
      match op.toNat / 16777216, rest with
      | 1, ws => if 1 ≤ ws.length ∧ ws.length ≤ 6 then some (.writeParam ws) else none
      | 2, [w] => some (commandOf w)
      | 3, [] => some .readResult
      | 4, [] => some .readEvent
      | 5, [w] => some (.readView w)
      | _, _ => none

/-- The command that a transfer spells by the bits the station computer sends in it (R177, R198). -/
def decodeTransfer (bits : List Bool) : Option Instr := (portWords bits).bind transferCommand

end Sys2Proof
end

