-- ==== Sys2Proof/Config.lean ====
section
/-! DEFINITION. The free values: what the manual leaves unstated. Each has no body, so nothing can be proved of it. -/

namespace Sys2Proof.Config

/-- What a signed field of `width` bits holds when the value it should carry does not fit it (a STATUS position of 24 bits,
an event or view word of 32 bits): the manual states no result (log 7). A function of the value. -/
opaque unstatedField (width : Nat) (value : Int) : BitVec width

/-- The planning deceleration of R151 at a drive that forms a hold target before the first computation of R109 in its run:
"as the latest computation of R109 left it" names no value there (log 8). A function of State's count of free values. -/
opaque unstatedPlanning (use : Nat) : Int

end Sys2Proof.Config
end

