-- ==== Sys2Proof/Machine/State.lean ====
section
/-! DEFINITION. The state of one PJ460 as plain data, block by block (Introduction, Block overview), and its reset value. -/

namespace Sys2Proof.Machine

/-! ### Enumerations -/

/-- The five roles (Introduction, Stations and roles; codes in R189). -/
inductive Role where
  | drive | carA | carB | loop | wayside
deriving DecidableEq, Repr

/-- The direction of a run (Introduction, Line coordinate and direction). -/
inductive Dir where
  | up | down
deriving DecidableEq, Repr

/-- The standing of a position estimate (R20). -/
inductive Quality where
  | unknown | unconfirmed | confirmed
deriving DecidableEq, Repr

/-- Demand and intervention levels in rising severity (R139). -/
inductive Level where
  | none | advise | service | trip
deriving DecidableEq, Repr

/-- The run states of chapter 5 (codes in R196). -/
inductive RunState where
  | idle | dispatch | awaitGo | moving | stopping | held | dwell | arrived | tripped
deriving DecidableEq, Repr

inductive RunKind where
  | service | inspection
deriving DecidableEq, Repr

/-- The loop decision (R80). -/
inductive Decision where
  | undecided | stop | pass | notApplicable
deriving DecidableEq, Repr

/-- The kind of a stop list entry (R81). -/
inductive StopKind where
  | loop | halt | terminal
deriving DecidableEq, Repr

inductive EntryStatus where
  | pending | reached
deriving DecidableEq, Repr

/-- Which of the two told a station of the drive's start of a leg or a resume: its RUN_GO or its STATUS (R99, R114, R155). -/
inductive StartSign where
  | runGo | status
deriving DecidableEq, Repr

/-- The state of a peer record (R59). -/
inductive RecState where
  | absent | stale | lost | excluded | present
deriving DecidableEq, Repr

/-- The exclusion cause of a peer record (R59). -/
inductive Exclusion where
  | none | profile | role
deriving DecidableEq, Repr

/-- The causes of the trip latch (R168). -/
inductive TripCause where
  | overspeed | envelope | uncommanded | mark | door | brakeFb | localTrip | recon | config
deriving DecidableEq, Repr

/-- The causes of a run close (R105). -/
inductive CloseCause where
  | arrived | aborted | missingPeer | noConsent | stopMismatch | held | noDrive | contention
deriving DecidableEq, Repr

/-- The result codes of the port (R182). -/
inductive Result where
  | none | done | doneClamped | superseded | wrongState | wrongRole | outOfRange | tooLate | noPosition | nothingToDo
  | tripped | refusedContention | refusedLatched | refusedMoving
  | closed (cause : CloseCause)
deriving DecidableEq, Repr

/-- The event kinds of the port queue (R185). -/
inductive EventKind where
  | runOpened | runCommitted | runClosed | legReached | held | resumed | loopDecided | loopMisaligned
  | peerPresent | peerStale | peerLost | peerExcluded | lineDown | lineUp | txDrop | slotConflict | roleConflict
  | markMismatch | markMissed | blockProven | blockUnproven | allUnproven | stageFailed | parkDegraded
  | tripLatched | tripCleared | tripRemote | detectorFault | cmdSuperseded | configFault
deriving DecidableEq, Repr

/-- What a block is unproven for: the cause values of R11. -/
inductive UnproveCause where
  | spread | ownMark | carMark | loopFix
deriving DecidableEq, Repr

/-- Where the part stands between reset and operation (R189, R192). -/
inductive Phase where
  | inReset | loading | running
deriving DecidableEq, Repr

/-- A timer: `none` while stopped, `some n` while running with `n` ms left (0 once it has run out and its expiry waits). -/
abbrev Timer := Option Nat

/-! ### The configuration image (R197) -/

/-- The 56 parameter words in the order of R197, each a signed word. -/
structure Params where
  L : Int
  N : Int
  bitRate : Int
  loopFitted : Int
  pA : Int
  pB : Int
  W : Int
  wClear : Int
  allowTerminal : Int
  allowLoop : Int
  allowHalt : Int
  vMax : Int
  vInsp : Int
  vCreep : Int
  vStill : Int
  sCreep : Int
  mDec : Int
  mAdv : Int
  mSvc : Int
  dSvc : Int
  dTrip : Int
  aPlan : Int
  aAcc : Int
  aUnit : Int
  aFloor : Int
  aCap : Int
  mCar : Int
  maxLoad : Int
  mExtra : Int
  tR : Int
  parkFactor : Int
  tolProve : Int
  tolWarn : Int
  tolTrip : Int
  markWindow : Int
  tStatus : Int
  tStale : Int
  tLost : Int
  tDisp : Int
  tConsent : Int
  tLoad : Int
  tSamp : Int
  tStill : Int
  tStage : Int
  tDetMax : Int
  scaleSheave : Int
  scaleA : Int
  scaleB : Int
  suppress1 : Int
  suppress2 : Int
  suppress3 : Int
  suppress4 : Int
  posDaLow : Int
  posDaHigh : Int
  posDbLow : Int
  posDbHigh : Int
deriving DecidableEq, Repr

/-- A block record of the profile table (R2). -/
structure Block where
  length : Int
  vLim : Int
  sA : Int
  sB : Int
  balance : Int
  markerA : Nat
  markerB : Nat
  isLoop : Bool
  noHalt : Bool
deriving DecidableEq, Repr

/-- The loader's copy of an accepted image (R192). -/
structure Image where
  params : Params
  blocks : List Block
deriving DecidableEq, Repr

/-- A configuration fault: its code and the lowest block that fails, if the code names one (R190, R191, R193). -/
structure ConfigFault where
  code : Nat
  block : Option Nat
deriving DecidableEq, Repr

structure Straps where
  slot : Slot
  roleCode : Fin 8
deriving DecidableEq, Repr

structure Loader where
  image : Option Image
  fault : Option ConfigFault
  /-- First sum and second sum (R192). -/
  profileId : Byte × Byte
  bitRate : Nat
  listenTimer : Timer
deriving DecidableEq, Repr

/-! ### Run and STATUS contents -/

/-- Origin slot and the origin's run counter (Introduction, Identifiers). -/
structure RunId where
  origin : Slot
  counter : Byte
deriving DecidableEq, Repr

/-- A restriction list entry (R15): `summit` is its end, false for VALLEY. -/
structure Restriction where
  summit : Bool
  count : Int
  complement : Bool
  speed : Int
deriving DecidableEq, Repr

/-- The contents of a STATUS frame, of a peer record and of the own record (R59, R70, R196). -/
structure Status where
  roleCode : Fin 8
  profileId : Byte × Byte
  fault : Bool
  runState : RunState
  runId : Option RunId
  kind : RunKind
  dir : Dir
  leg : Nat
  stopCount : Nat
  decision : Decision
  target : Int
  /-- The stop count of the consent; its run id is the sender's current one (R196). -/
  consent : Option Nat
  hold : Bool
  trip : Option TripCause
  x : Int
  v : Int
  quality : Quality
  standstill : Bool
  demand : Level
  lastMatched : Option Nat
  faultBlock : Option Nat
  load : Nat
  loadFresh : Bool
  ready : Bool
  doorClosed : Bool
  proof : BitVec 64
  restriction : Option Restriction
deriving DecidableEq, Repr

/-- The contents of a frame on the station lines (R195). -/
inductive Body where
  | status (st : Status)
  | runOpen (id : RunId) (kind : RunKind) (dir : Dir) (loopStop : Bool)
  | addStop (id : RunId) (position : Int)
  | loopCall (id : RunId)
  | runGo (id : RunId) (leg : Nat) (target : Int)
  | runClose (id : RunId) (cause : CloseCause)
  | hold (id : RunId)
  | release (id : RunId)
  | abort (id : RunId)
  | trip (cause : TripCause)
deriving DecidableEq, Repr

/-! ### Line interface (chapter 3) -/

/-- A frame in a transmit queue. `ident` tells that two copies are one frame (R45); `seq` is the number it took. -/
structure TxFrame where
  ident : Nat
  body : Body
  seq : Option Byte
  sending : Bool
deriving DecidableEq, Repr

/-- One line: idle state, UP or DOWN, silence timer (stopped once expired), transmit queue (R42, R46, R56). -/
structure Line where
  idle : Bool
  up : Bool
  silence : Timer
  queue : List TxFrame
deriving DecidableEq, Repr

/-- What the two lines share: sequence counter, sequence memories, slot conflict (R45, R52, R53). -/
structure Rx where
  seqCounter : Byte
  seqMem : Vector (Option Byte) 8
  slotConflict : Bool
  nextFrameId : Nat
deriving DecidableEq, Repr

/-! ### Peer table (chapter 4) -/

structure PeerRecord where
  state : RecState
  exclusion : Exclusion
  arrival : Word32
  staleTimer : Timer
  lostTimer : Timer
  contents : Option Status
deriving DecidableEq, Repr

structure OwnRecord where
  status : Status
  formedAt : Word32
deriving DecidableEq, Repr

structure PeerCtl where
  roleConflict : Bool
  statusTimer : Timer
  recompTimer : Timer
deriving DecidableEq, Repr

/-- An estimate that entered the supervision estimate (R72). -/
structure Entered where
  role : Role
  x : Int
  v : Int
  confirmed : Bool
deriving DecidableEq, Repr

/-- The supervision estimate: x_sup and v_sup, absent in NO_POSITION (R73, R76). -/
structure Sup where
  est : Option (Int × Int)
  entered : List Entered
  spread : Int
deriving DecidableEq, Repr

/-- A car's own load and ready latch (R77, R96). -/
structure Car where
  load : Nat
  loadFresh : Bool
  loadTimer : Timer
  ready : Bool
deriving DecidableEq, Repr

/-! ### Position unit (chapter 2) -/

structure Pos where
  um : Int
  lastCount : Word32
  x : Int
  v : Int
  quality : Quality
  ring : List (Int × Word32)
  standstill : Bool
  standTimer : Timer
  sampleTimer : Timer
deriving DecidableEq, Repr

/-- The marker a car's monitor expects: code, boundary and concerned block (R31). -/
structure Expected where
  code : Nat
  boundary : Int
  block : Nat
deriving DecidableEq, Repr

structure Marker where
  armed : Bool
  /-- Armed with quality UNKNOWN: the choice of the expected code waits (R31). -/
  awaiting : Bool
  expected : Option Expected
  faults : Nat
  lastMatched : Option Nat
  faultBlock : Option Nat
  drift : Int
deriving DecidableEq, Repr

structure DetUnit where
  stuckTimer : Timer
  fault : Bool
deriving DecidableEq, Repr

structure Passage where
  det : Detector
  time : Word32
deriving DecidableEq, Repr

/-- Loop detectors and open passages of the two tracks (R38 to R41). -/
structure Det where
  daLow : DetUnit
  daHigh : DetUnit
  dbLow : DetUnit
  dbHigh : DetUnit
  passageA : Option Passage
  passageB : Option Passage
deriving DecidableEq, Repr

/-! ### Profile table (chapter 1) -/

structure Traversal where
  block : Nat
  entry : Int
  clean : Bool
  greatest : Int
deriving DecidableEq, Repr

structure Profile where
  proof : BitVec 64
  traversal : Option Traversal
  restrictions : Vector (Option Restriction) 8
deriving DecidableEq, Repr

/-! ### Run controller (chapters 5, 6 and 8) -/

structure StopEntry where
  pos : Int
  kind : StopKind
  allowance : Int
  status : EntryStatus
deriving DecidableEq, Repr

/-- Run id, kind and direction of the run held. -/
structure RunHdr where
  id : RunId
  kind : RunKind
  dir : Dir
deriving DecidableEq, Repr

/-- The run record (R80, R121, R123, R151, R156). A slot in `holds` carries its implicit mark (R144). `consents` is the DRIVE's consent
view: run id and stop count of the consent last taken from each PRESENT peer record (R80, R97). `driven` is the drive's target
of the current leg where the list has no PENDING entry at it (R99); `startedBy` is what told the start under way, while the other
sign of it is to be ignored (R99, R114, R155). -/
structure RunRecord where
  hdr : Option RunHdr
  stops : List StopEntry
  leg : Nat
  designator : Bool
  decision : Decision
  holds : Vector (Option Bool) 8
  consents : Vector (Option (Option RunId × Nat)) 8
  dispatchTimer : Timer
  consentTimer : Timer
  goGuardTimer : Timer
  abortPending : Bool
  abortOrigin : Bool
  holdTarget : Option Int
  driven : Option Int
  startedBy : Option StartSign
  berth : Option Int
  berthFrozen : Bool
  misaligned : Bool
  rejoined : Bool
  adopted : Option Nat
  joinedInDwell : Bool
deriving DecidableEq, Repr

structure RunCtl where
  state : RunState
  counter : Byte
  run : RunRecord
deriving DecidableEq, Repr

/-- The latest computation of the speed reference (R107, R109, R110). -/
structure RefCalc where
  target : Int
  remaining : Int
  aPl : Int
  vTarget : Int
deriving DecidableEq, Repr

structure SpeedRef where
  vref : Int
  shown : Option RefCalc
deriving DecidableEq, Repr

/-! ### Envelope supervisor (chapter 7) -/

/-- A supervision target as the run view shows the binding one (R134, R135). -/
structure Binding where
  position : Int
  speed : Int
  distance : Int
  stopping : Int
  decel : Int
deriving DecidableEq, Repr

structure Env where
  level : Level
  demand : Level
  binding : Option Binding
deriving DecidableEq, Repr

/-! ### Output stage (chapter 9) -/

structure StageUnit where
  failed : Bool
  timer : Timer
deriving DecidableEq, Repr

structure Brakes where
  stage1 : StageUnit
  stage2 : StageUnit
  stage4 : StageUnit
  stage8 : StageUnit
  /-- The requested parking level while parking applies (R165). -/
  parkRequested : Option Int
  parkDegraded : Bool
  ebFault : Bool
  ebTimer : Timer
deriving DecidableEq, Repr

/-- The trip latch, the trip origin set, and the first request of this moment that found the latch set, kept for a RESET_TRIP of
the same moment (R168, R171, R174). -/
structure Trips where
  latch : Option TripCause
  origins : Vector (Option TripCause) 8
  kept : Option TripCause
deriving DecidableEq, Repr

/-- The plant outputs, the reference output and ATTN. -/
structure Outputs where
  stage1 : Bool
  stage2 : Bool
  stage4 : Bool
  stage8 : Bool
  emergencyBrake : Bool
  trackBrake : Bool
  safetyChain : Bool
  doorRelease : Bool
  /-- The word last sent to the converter, `none` while the output is silent (R108). -/
  speedWord : Option (BitVec 16)
  attn : Bool
deriving DecidableEq, Repr

/-! ### Station port (chapter 10) -/

structure EventRecord where
  kind : EventKind
  slot : Slot
  run : Option RunId
  block : Option Nat
  value : Int
  time : Word32
deriving DecidableEq, Repr

inductive ReplyKind where
  | result | event | view
deriving DecidableEq, Repr

/-- A read reply formed and not yet ended. `live` says the reply still has its effect at the end: no result completed since a
READ_RESULT was formed, a record was returned by a READ_EVENT (R177). -/
structure Reply where
  kind : ReplyKind
  words : List Word32
  live : Bool
deriving DecidableEq, Repr

structure Port where
  params : Vector Word32 6
  busy : Bool
  code : Byte
  result : Result
  unread : Bool
  queue : List EventRecord
  overflow : Bool
  reply : Option Reply
deriving DecidableEq, Repr

/-! ### The whole state -/

structure State where
  pending : List Instr
  phase : Phase
  clock : Word32
  straps : Straps
  loader : Loader
  pins : PlantPins
  outputs : Outputs
  rx : Rx
  line1 : Line
  line2 : Line
  peers : Vector PeerRecord 8
  own : OwnRecord
  peerCtl : PeerCtl
  sup : Sup
  car : Car
  pos : Pos
  marker : Marker
  det : Det
  profile : Profile
  run : RunCtl
  ref : SpeedRef
  env : Env
  brakes : Brakes
  trips : Trips
  port : Port
  freeUses : Nat
deriving DecidableEq, Repr

/-- The reasons the machine could stop. Every command has an effect the spec gives, so no meaning raises one. -/
inductive Fault where
  /-- Raised by no meaning; it stands because the interface asks for a fault type. Safe. -/
  | noSuchFault
deriving DecidableEq, Repr

/-- The reasons a command is not run. -/
inductive Refusal where
  /-- Raised by a dispatch arm of a command that has no meaning yet. Safe: the machine stops. -/
  | notModelled (mnemonic : String)
deriving DecidableEq, Repr

/-! ### Start-up and reset values -/

def PlantPins.none : PlantPins :=
  ⟨0, false, false, false, false, false, false, false, false, false, false, false, false, false⟩

/-- The contents of an idle station with every field at zero. -/
def Status.blank : Status where
  roleCode := 0
  profileId := (0, 0)
  fault := false
  runState := .idle
  runId := Option.none
  kind := .service
  dir := .up
  leg := 0
  stopCount := 0
  decision := .undecided
  target := 0
  consent := Option.none
  hold := false
  trip := Option.none
  x := 0
  v := 0
  quality := .unknown
  standstill := false
  demand := .none
  lastMatched := Option.none
  faultBlock := Option.none
  load := 0
  loadFresh := false
  ready := false
  doorClosed := false
  proof := 0
  restriction := Option.none

/-- A peer record after start-up (R61). -/
def PeerRecord.empty : PeerRecord := ⟨.absent, .none, 0, Option.none, Option.none, Option.none⟩

/-- The run record after start-up and after a run close (R80, R126, R144, R156). -/
def RunRecord.empty : RunRecord where
  hdr := Option.none
  stops := []
  leg := 0
  designator := false
  decision := .undecided
  holds := Vector.replicate 8 Option.none
  consents := Vector.replicate 8 Option.none
  dispatchTimer := Option.none
  consentTimer := Option.none
  goGuardTimer := Option.none
  abortPending := false
  abortOrigin := false
  holdTarget := Option.none
  driven := Option.none
  startedBy := Option.none
  berth := Option.none
  berthFrozen := false
  misaligned := false
  rejoined := false
  adopted := Option.none
  joinedInDwell := false

def StageUnit.healthy : StageUnit := ⟨false, Option.none⟩
def DetUnit.clear : DetUnit := ⟨Option.none, false⟩
def Line.fresh : Line := ⟨false, true, Option.none, []⟩

/-- Every plant output at its safe level, the reference output silent, ATTN withdrawn (R189). -/
def Outputs.safe : Outputs := ⟨true, true, true, true, true, true, true, false, Option.none, false⟩

/-- Reset asserted: every state ended, every output at its safe level (R189, log 6). -/
def State.reset : State where
  pending := []
  phase := .inReset
  clock := 0
  straps := ⟨0, 0⟩
  loader := ⟨Option.none, Option.none, (0, 0), 0, Option.none⟩
  pins := PlantPins.none
  outputs := Outputs.safe
  rx := ⟨0, Vector.replicate 8 Option.none, false, 0⟩
  line1 := Line.fresh
  line2 := Line.fresh
  peers := Vector.replicate 8 PeerRecord.empty
  own := ⟨Status.blank, 0⟩
  peerCtl := ⟨false, Option.none, Option.none⟩
  sup := ⟨Option.none, [], 0⟩
  car := ⟨0, false, Option.none, false⟩
  pos := ⟨0, 0, 0, 0, .unknown, [], false, Option.none, Option.none⟩
  marker := ⟨false, false, Option.none, 0, Option.none, Option.none, 0⟩
  det := ⟨DetUnit.clear, DetUnit.clear, DetUnit.clear, DetUnit.clear, Option.none, Option.none⟩
  profile := ⟨0, Option.none, Vector.replicate 8 Option.none⟩
  run := ⟨.idle, 0, RunRecord.empty⟩
  ref := ⟨0, Option.none⟩
  env := ⟨.none, .none, Option.none⟩
  brakes := ⟨StageUnit.healthy, StageUnit.healthy, StageUnit.healthy, StageUnit.healthy, Option.none, false, false, Option.none⟩
  trips := ⟨Option.none, Vector.replicate 8 Option.none, Option.none⟩
  port := ⟨Vector.replicate 6 0, false, 0, .none, false, [], false, Option.none⟩
  freeUses := 0

end Sys2Proof.Machine
end

