-- ==== Sys2Proof/Machine/Arith.lean ====
section
/-! DEFINITION. The arithmetic of the manual: roundings, integer square root, running sums, clock differences, signed fields. -/

namespace Sys2Proof.Machine

/-- ceil(a / b) for b > 0 (R1). -/
def ceilDiv (a b : Int) : Int := -((-a) / b)

/-- floor(a / b) for b > 0 (R1). -/
def floorDiv (a b : Int) : Int := a / b

/-- `v` limited to the range from `lo` to `hi`. -/
def clampTo (lo hi v : Int) : Int := max lo (min hi v)

/-- `v` lies from `lo` to `hi`. -/
def within (lo hi v : Int) : Bool := decide (lo ≤ v) && decide (v ≤ hi)

/-- |v|. -/
def magnitude (v : Int) : Int := v.natAbs

/-- dir: +1 for UP, −1 for DOWN (R1). -/
def Dir.sgn : Dir → Int
  | .up => 1
  | .down => -1

/-- Set the bits of the root from bit `b - 1` down. -/
def isqrtFrom : Nat → Nat → Nat → Nat
  | 0, _, r => r
  | b + 1, n, r => isqrtFrom b n (if (r + 2 ^ b) * (r + 2 ^ b) ≤ n then r + 2 ^ b else r)

/-- The integer square root: the largest integer whose square does not exceed the radicand (R1), for radicands below 2^80
(R109: 64-bit arithmetic); 0 for a negative radicand. -/
def isqrt (n : Int) : Int := isqrtFrom 40 n.toNat 0

/-- One byte into the two running sums (R44). -/
def sumStep (acc : Nat × Nat) (b : Byte) : Nat × Nat :=
  ((acc.1 + b.toNat) % 255, (acc.2 + (acc.1 + b.toNat) % 255) % 255)

/-- The two running sums of a byte sequence (R44). -/
def runningSums (bs : List Byte) : Nat × Nat := bs.foldl sumStep (0, 0)

/-- `now` minus `before` modulo 2^32 (R23, R40). -/
def elapsed (now before : Word32) : Int := (now - before).toNat

/-- `now` minus `before` modulo 2^32, read as a signed value (R21, R71). -/
def signedDiff (now before : Word32) : Int := (now - before).toInt

/-- A value fits a signed field of `w` bits. -/
def fitsSigned (w : Nat) (v : Int) : Bool := decide (-(2 ^ (w - 1)) ≤ v) && decide (v < 2 ^ (w - 1))

/-- A signed field in two's complement (R195); free where the value does not fit (log 7). -/
def signedField (w : Nat) (v : Int) : BitVec w :=
  if fitsSigned w v then BitVec.ofInt w v else Config.unstatedField w v

/-- A byte holding `n` modulo 256. -/
def byteOf (n : Nat) : Byte := BitVec.ofNat 8 n

def word2 (v : BitVec 16) : List Byte := [v.extractLsb' 8 8, v.extractLsb' 0 8]
def word3 (v : BitVec 24) : List Byte := [v.extractLsb' 16 8, v.extractLsb' 8 8, v.extractLsb' 0 8]
def word4 (v : Word32) : List Byte :=
  [v.extractLsb' 24 8, v.extractLsb' 16 8, v.extractLsb' 8 8, v.extractLsb' 0 8]

/-- Byte `i` of a sequence; 0 past its end. -/
def byteAt (bs : List Byte) (i : Nat) : Byte := bs.getD i 0

/-- Two bytes from `i` on, most significant first (R195). -/
def nat2At (bs : List Byte) (i : Nat) : Nat := (byteAt bs i).toNat * 256 + (byteAt bs (i + 1)).toNat
def int2At (bs : List Byte) (i : Nat) : Int := (byteAt bs i ++ byteAt bs (i + 1)).toInt
def int3At (bs : List Byte) (i : Nat) : Int := (byteAt bs i ++ byteAt bs (i + 1) ++ byteAt bs (i + 2)).toInt
def int4At (bs : List Byte) (i : Nat) : Int :=
  (byteAt bs i ++ byteAt bs (i + 1) ++ byteAt bs (i + 2) ++ byteAt bs (i + 3)).toInt

/-- A flag as 0 or 1. -/
def flagNat (b : Bool) : Nat := if b then 1 else 0

/-- Bit `i` of a byte value. -/
def bitOf (n i : Nat) : Bool := n / 2 ^ i % 2 == 1

/-- A timer started anew with a length in ms. -/
def startTimer (length : Int) : Timer := some length.toNat

/-- `f` applied `n` times. -/
def applyTimes {α : Type} (f : α → α) : Nat → α → α
  | 0, a => a
  | n + 1, a => applyTimes f n (f a)

end Sys2Proof.Machine
end

