-- ==== Sys2Proof/Machine/Operands.lean ====
section
/-! DEFINITION. The operand forms: the codes of the enumerations, the frames of the station lines (R195, R196), the
configuration image (R190, R191, R197) and the words of the station port (R198). -/

namespace Sys2Proof.Machine

/-! ### Codes of the enumerations -/

/-- R189. -/
def Role.code : Role → Nat
  | .drive => 1 | .carA => 2 | .carB => 3 | .loop => 4 | .wayside => 5

/-- R189: codes 0, 6 and 7 are invalid. -/
def Role.ofCode (c : Nat) : Option Role :=
  match c with
  | 1 => some .drive | 2 => some .carA | 3 => some .carB | 4 => some .loop | 5 => some .wayside | _ => none

def Role.isCar : Role → Bool
  | .carA | .carB => true
  | .drive | .loop | .wayside => false

/-- R196. -/
def Quality.code : Quality → Nat
  | .unknown => 0 | .unconfirmed => 1 | .confirmed => 2
def Quality.ofCode (c : Nat) : Option Quality :=
  match c with
  | 0 => some .unknown | 1 => some .unconfirmed | 2 => some .confirmed | _ => none

/-- R196; also the order of severity. -/
def Level.code : Level → Nat
  | .none => 0 | .advise => 1 | .service => 2 | .trip => 3
def Level.ofCode (c : Nat) : Option Level :=
  match c with
  | 0 => some .none | 1 => some .advise | 2 => some .service | 3 => some .trip | _ => Option.none

/-- R196. -/
def RunState.code : RunState → Nat
  | .idle => 0 | .dispatch => 1 | .awaitGo => 2 | .moving => 3 | .stopping => 4 | .held => 5 | .dwell => 6
  | .arrived => 7 | .tripped => 8
def RunState.ofCode (c : Nat) : Option RunState :=
  match c with
  | 0 => some .idle | 1 => some .dispatch | 2 => some .awaitGo | 3 => some .moving | 4 => some .stopping
  | 5 => some .held | 6 => some .dwell | 7 => some .arrived | 8 => some .tripped | _ => none

/-- R195, RUN_OPEN. -/
def RunKind.code : RunKind → Nat
  | .service => 1 | .inspection => 2
def RunKind.ofCode (c : Nat) : Option RunKind :=
  match c with
  | 1 => some .service | 2 => some .inspection | _ => none

/-- R195, RUN_OPEN. -/
def Dir.code : Dir → Nat
  | .up => 1 | .down => 2
def Dir.ofCode (c : Nat) : Option Dir :=
  match c with
  | 1 => some .up | 2 => some .down | _ => none

/-- R196. -/
def Decision.code : Decision → Nat
  | .undecided => 0 | .stop => 1 | .pass => 2 | .notApplicable => 3
def Decision.ofCode (c : Nat) : Option Decision :=
  match c with
  | 0 => some .undecided | 1 => some .stop | 2 => some .pass | 3 => some .notApplicable | _ => none

/-- R198. -/
def StopKind.code : StopKind → Nat
  | .loop => 1 | .halt => 2 | .terminal => 3
def EntryStatus.code : EntryStatus → Nat
  | .pending => 0 | .reached => 1
def RecState.code : RecState → Nat
  | .absent => 0 | .stale => 1 | .lost => 2 | .excluded => 3 | .present => 4
def Exclusion.code : Exclusion → Nat
  | .none => 0 | .profile => 1 | .role => 2

/-- R168. -/
def TripCause.code : TripCause → Nat
  | .overspeed => 1 | .envelope => 2 | .uncommanded => 3 | .mark => 4 | .door => 5 | .brakeFb => 6 | .localTrip => 7
  | .recon => 8 | .config => 9
def TripCause.ofCode (c : Nat) : Option TripCause :=
  match c with
  | 1 => some .overspeed | 2 => some .envelope | 3 => some .uncommanded | 4 => some .mark | 5 => some .door
  | 6 => some .brakeFb | 7 => some .localTrip | 8 => some .recon | 9 => some .config | _ => none

/-- The class LATCHED (R168); the other causes are RESETTABLE. -/
def TripCause.latched : TripCause → Bool
  | .recon | .config => true
  | .overspeed | .envelope | .uncommanded | .mark | .door | .brakeFb | .localTrip => false

/-- R105. -/
def CloseCause.code : CloseCause → Nat
  | .arrived => 1 | .aborted => 2 | .missingPeer => 3 | .noConsent => 4 | .stopMismatch => 5 | .held => 6
  | .noDrive => 7 | .contention => 8

/-- The causes a RUN_CLOSE frame may carry (R105, R195). -/
def CloseCause.ofFrameCode (c : Nat) : Option CloseCause :=
  match c with
  | 1 => some .arrived | 2 => some .aborted | 3 => some .missingPeer | 4 => some .noConsent | 5 => some .stopMismatch
  | 6 => some .held | _ => none

/-- R182: a run close cause takes 16 plus its code. -/
def Result.code : Result → Nat
  | .none => 0 | .done => 1 | .doneClamped => 2 | .superseded => 3 | .wrongState => 4 | .wrongRole => 5
  | .outOfRange => 6 | .tooLate => 7 | .noPosition => 8 | .nothingToDo => 9 | .tripped => 10 | .refusedContention => 11
  | .refusedLatched => 12 | .refusedMoving => 13 | .closed c => 16 + c.code

/-- R185. -/
def EventKind.code : EventKind → Nat
  | .runOpened => 1 | .runCommitted => 2 | .runClosed => 3 | .legReached => 4 | .held => 5 | .resumed => 6
  | .loopDecided => 7 | .loopMisaligned => 8 | .peerPresent => 9 | .peerStale => 10 | .peerLost => 11
  | .peerExcluded => 12 | .lineDown => 13 | .lineUp => 14 | .txDrop => 15 | .slotConflict => 16 | .roleConflict => 17
  | .markMismatch => 18 | .markMissed => 19 | .blockProven => 20 | .blockUnproven => 21 | .allUnproven => 22
  | .stageFailed => 23 | .parkDegraded => 24 | .tripLatched => 25 | .tripCleared => 26 | .tripRemote => 27
  | .detectorFault => 28 | .cmdSuperseded => 29 | .configFault => 30

/-- R11, cause values 1 to 4. -/
def UnproveCause.code : UnproveCause → Int
  | .spread => 1 | .ownMark => 2 | .carMark => 3 | .loopFix => 4

/-- The command codes of section 10.3. -/
inductive CommandName where
  | requestRun | addHalt | callLoop | hold | release | abort | confirmReady | setLoad | setPosition | setRestriction
  | trip | resetTrip | unproveAll
deriving DecidableEq, Repr

def CommandName.code : CommandName → Byte
  | .requestRun => 1 | .addHalt => 2 | .callLoop => 3 | .hold => 4 | .release => 5 | .abort => 6 | .confirmReady => 7
  | .setLoad => 8 | .setPosition => 9 | .setRestriction => 10 | .trip => 11 | .resetTrip => 12 | .unproveAll => 13

/-! ### Frames on the station lines (R195, R196) -/

/-- Kind codes (R195). -/
def Body.kindCode : Body → Nat
  | .status _ => 1 | .runOpen .. => 2 | .addStop .. => 3 | .loopCall _ => 4 | .runGo .. => 5 | .runClose .. => 6
  | .hold _ => 7 | .release _ => 8 | .abort _ => 9 | .trip _ => 10

/-- The priority of a frame is fixed by its kind (R43). -/
def Body.priority : Body → Nat
  | .trip _ => 0
  | .hold _ | .release _ | .abort _ => 1
  | .runGo .. | .runClose .. => 2
  | .status _ => 3
  | .runOpen .. | .addStop .. | .loopCall _ => 4

def Body.isStatus : Body → Bool
  | .status _ => true
  | _ => false

/-- The fixed payload length of each kind code; `none` for an unknown kind (R195). -/
def payloadLength (kind : Nat) : Option Nat :=
  match kind with
  | 1 => some 32 | 2 => some 5 | 3 => some 6 | 4 => some 2 | 5 => some 7 | 6 => some 3
  | 7 => some 2 | 8 => some 2 | 9 => some 2 | 10 => some 1 | _ => none

/-- A role code names a CAR role. -/
def carCode (c : Fin 8) : Bool := c.val == 2 || c.val == 3

/-- A block index byte: 255 for none (R196). -/
def blockByte (b : Option Nat) : Byte := byteOf (b.getD 255)
def blockOfByte (n : Nat) : Option Nat := if n = 255 then none else some n

/-- The eight bytes of a proof mask, block 63 in the top bit of the first (R196). -/
def maskBytes (m : BitVec 64) : List Byte :=
  [m.extractLsb' 56 8, m.extractLsb' 48 8, m.extractLsb' 40 8, m.extractLsb' 32 8,
   m.extractLsb' 24 8, m.extractLsb' 16 8, m.extractLsb' 8 8, m.extractLsb' 0 8]

def maskAt (bs : List Byte) (i : Nat) : BitVec 64 :=
  byteAt bs i ++ byteAt bs (i + 1) ++ byteAt bs (i + 2) ++ byteAt bs (i + 3) ++
  byteAt bs (i + 4) ++ byteAt bs (i + 5) ++ byteAt bs (i + 6) ++ byteAt bs (i + 7)

/-- Kind and direction bits of a STATUS (R196). -/
def kindBit : RunKind → Nat
  | .service => 0 | .inspection => 1
def dirBit : Dir → Nat
  | .up => 0 | .down => 1

/-- The four CAR bytes 17 to 20: 0 at other roles (R196). -/
def carBytes (st : Status) : List Byte :=
  if carCode st.roleCode then
    [blockByte st.lastMatched, blockByte st.faultBlock] ++ word2 (BitVec.ofNat 16 st.load)
  else [0, 0, 0, 0]

/-- Bytes 21 to 23: the restriction entry; count 0 and complement no stand for no entry (R15, R196). -/
def restrictionBytes (r : Option Restriction) : List Byte :=
  match r with
  | none => [0, 0, 0]
  | some e => [byteOf (e.count.toNat % 128 + 128 * flagNat e.summit)] ++ word2 (BitVec.ofInt 16 e.speed)

/-- The complement bit of byte 1 (R196). -/
def complementBit (r : Option Restriction) : Bool :=
  match r with
  | none => false
  | some e => e.complement

/-- The STATUS payload (R196). -/
def statusBytes (st : Status) : List Byte :=
  [byteOf (st.roleCode.val + 8 * st.quality.code + 32 * st.demand.code + 128 * flagNat st.fault),
   byteOf (flagNat st.hold + 2 * flagNat st.trip.isSome + 4 * flagNat st.standstill + 8 * flagNat st.loadFresh
     + 16 * flagNat st.ready + 32 * flagNat st.doorClosed + 64 * flagNat st.consent.isSome
     + 128 * flagNat (complementBit st.restriction)),
   st.profileId.1, st.profileId.2,
   byteOf (st.runState.code + 16 * kindBit st.kind + 32 * dirBit st.dir + 64 * st.decision.code),
   byteOf ((st.runId.map (·.origin.val)).getD 0 + 8 * (st.leg % 8)),
   (st.runId.map (·.counter)).getD 0,
   byteOf (st.stopCount + 16 * st.consent.getD 0)]
  ++ word3 (signedField 24 st.target) ++ word3 (signedField 24 st.x) ++ word2 (signedField 16 st.v)
  ++ [byteOf ((st.trip.map TripCause.code).getD 0)]
  ++ carBytes st ++ restrictionBytes st.restriction ++ maskBytes st.proof

/-- Bytes 21 to 23 and the complement bit read back (R15, R196). -/
def restrictionAt (bs : List Byte) : Option Restriction :=
  let n := (byteAt bs 21).toNat
  let complement := bitOf (byteAt bs 1).toNat 7
  if n % 128 = 0 && !complement then none
  else some ⟨bitOf n 7, (n % 128 : Nat), complement, (nat2At bs 22 : Nat)⟩

/-- The trip cause byte against the trip flag: a cause of R168 when the flag is set, 0 when it is clear (R196, R51). -/
def tripField (flag : Bool) (code : Nat) : Option (Option TripCause) :=
  if flag then (TripCause.ofCode code).map some else if code = 0 then some none else none

/-- A STATUS payload read back; `none` where a coded field is outside its codes or ranges (R51, R196). -/
def parseStatus (bs : List Byte) : Option Status := do
  let b0 := (byteAt bs 0).toNat
  let b1 := (byteAt bs 1).toNat
  let b4 := (byteAt bs 4).toNat
  let b5 := (byteAt bs 5).toNat
  let b7 := (byteAt bs 7).toNat
  let quality ← Quality.ofCode (b0 / 8 % 4)
  let demand ← Level.ofCode (b0 / 32 % 4)
  let runState ← RunState.ofCode (b4 % 16)
  let decision ← Decision.ofCode (b4 / 64 % 4)
  let trip ← tripField (bitOf b1 1) (byteAt bs 16).toNat
  if b7 % 16 ≤ 8 ∧ b7 / 16 ≤ 8 then
    let roleCode : Fin 8 := ⟨b0 % 8, Nat.mod_lt _ (by decide)⟩
    let origin : Slot := ⟨b5 % 8, Nat.mod_lt _ (by decide)⟩
    some
      { roleCode := roleCode
        profileId := (byteAt bs 2, byteAt bs 3)
        fault := bitOf b0 7
        runState := runState
        runId := if runState = .idle then none else some ⟨origin, byteAt bs 6⟩
        kind := if bitOf b4 4 then .inspection else .service
        dir := if bitOf b4 5 then .down else .up
        leg := b5 / 8 % 8
        stopCount := b7 % 16
        decision := decision
        target := int3At bs 8
        consent := if bitOf b1 6 then some (b7 / 16) else none
        hold := bitOf b1 0
        trip := trip
        x := int3At bs 11
        v := int2At bs 14
        quality := quality
        standstill := bitOf b1 2
        demand := demand
        lastMatched := if carCode roleCode then blockOfByte (byteAt bs 17).toNat else none
        faultBlock := if carCode roleCode then blockOfByte (byteAt bs 18).toNat else none
        load := if carCode roleCode then nat2At bs 19 else 0
        loadFresh := bitOf b1 3
        ready := bitOf b1 4
        doorClosed := bitOf b1 5
        proof := maskAt bs 24
        restriction := restrictionAt bs }
  else none

/-- A run id in two bytes: origin slot, then counter (R195). -/
def runIdBytes (id : RunId) : List Byte := [byteOf id.origin.val, id.counter]

/-- The slot a byte holds, when it holds one. -/
def slotOfByte (b : Byte) : Option Slot := if h : b.toNat < 8 then some ⟨b.toNat, h⟩ else none

def runIdAt (bs : List Byte) : Option RunId := (slotOfByte (byteAt bs 0)).map fun o => ⟨o, byteAt bs 1⟩

/-- The payload of a frame (R195). -/
def Body.payload : Body → List Byte
  | .status st => statusBytes st
  | .runOpen id k d f => runIdBytes id ++ [byteOf k.code, byteOf d.code, byteOf (flagNat f)]
  | .addStop id p => runIdBytes id ++ word4 (signedField 32 p)
  | .loopCall id => runIdBytes id
  | .runGo id leg t => runIdBytes id ++ [byteOf leg] ++ word4 (signedField 32 t)
  | .runClose id c => runIdBytes id ++ [byteOf c.code]
  | .hold id => runIdBytes id
  | .release id => runIdBytes id
  | .abort id => runIdBytes id
  | .trip c => [byteOf c.code]

/-- A flag byte: 0 or 1 (R195). -/
def flagOfByte (b : Byte) : Option Bool :=
  match b.toNat with
  | 0 => some false
  | 1 => some true
  | _ => none

/-- A payload of the fixed length of its kind, read back; `none` where a coded field is outside its codes (R51, R195). -/
def parseBody (kind : Nat) (bs : List Byte) : Option Body :=
  match kind with
  | 1 => (parseStatus bs).map .status
  | 2 => do
    let id ← runIdAt bs
    let k ← RunKind.ofCode (byteAt bs 2).toNat
    let d ← Dir.ofCode (byteAt bs 3).toNat
    let f ← flagOfByte (byteAt bs 4)
    return .runOpen id k d f
  | 3 => (runIdAt bs).map fun id => .addStop id (int4At bs 2)
  | 4 => (runIdAt bs).map .loopCall
  | 5 => do
    let id ← runIdAt bs
    if (byteAt bs 2).toNat ≤ 7 then some (.runGo id (byteAt bs 2).toNat (int4At bs 3)) else none
  | 6 => do
    let id ← runIdAt bs
    let c ← CloseCause.ofFrameCode (byteAt bs 2).toNat
    return .runClose id c
  | 7 => (runIdAt bs).map .hold
  | 8 => (runIdAt bs).map .release
  | 9 => (runIdAt bs).map .abort
  | 10 => (TripCause.ofCode (byteAt bs 0).toNat).map .trip
  | _ => none

/-- A valid frame as received: sender, sequence number and contents. -/
structure RxFrame where
  sender : Slot
  seq : Byte
  body : Body
deriving DecidableEq, Repr

/-- The header of a frame (R195). -/
def headerBytes (slot : Slot) (seq : Byte) (body : Body) : List Byte :=
  [byteOf (body.priority * 16 + slot.val * 2), byteOf (body.kindCode * 16), seq, byteOf body.payload.length]

/-- The check over header and payload (R44, R195). -/
def checkBytes (bs : List Byte) : List Byte := [byteOf (runningSums bs).1, byteOf (runningSums bs).2]

/-- The bytes of a frame as it goes out: header, payload, check (R43, R195). -/
def frameBytes (slot : Slot) (seq : Byte) (body : Body) : List Byte :=
  headerBytes slot seq body ++ body.payload ++ checkBytes (headerBytes slot seq body ++ body.payload)

/-- The check of a received byte sequence passes: its last two bytes are the sums of the bytes before them (R44). -/
def checkPasses (bs : List Byte) : Bool :=
  checkBytes (bs.take (bs.length - 2)) == bs.drop (bs.length - 2)

/-- R51: a frame is valid when it reached its delimiter, its check passes, its kind is known, its length field is that
kind's fixed length, and its coded fields hold codes of their layouts. -/
def parseFrame (bs : List Byte) (delimited : Bool) : Option RxFrame :=
  if delimited && decide (6 ≤ bs.length) && checkPasses bs then
    let kind := (byteAt bs 1).toNat / 16
    let len := (byteAt bs 3).toNat % 64
    if payloadLength kind = some len ∧ bs.length = len + 6 then
      (parseBody kind ((bs.drop 4).take len)).map fun body =>
        ⟨⟨(byteAt bs 0).toNat / 2 % 8, Nat.mod_lt _ (by decide)⟩, byteAt bs 2, body⟩
    else none
  else none

/-! ### The configuration image (R190, R191, R197) -/

/-- Parameter word `i` of the image, from 0 (R197). -/
def paramWord (img : List Byte) (i : Nat) : Int := int4At img (8 + 4 * i)

/-- The 56 parameter words in the order of R197. -/
def parseParams (img : List Byte) : Params where
  L := paramWord img 0
  N := paramWord img 1
  bitRate := paramWord img 2
  loopFitted := paramWord img 3
  pA := paramWord img 4
  pB := paramWord img 5
  W := paramWord img 6
  wClear := paramWord img 7
  allowTerminal := paramWord img 8
  allowLoop := paramWord img 9
  allowHalt := paramWord img 10
  vMax := paramWord img 11
  vInsp := paramWord img 12
  vCreep := paramWord img 13
  vStill := paramWord img 14
  sCreep := paramWord img 15
  mDec := paramWord img 16
  mAdv := paramWord img 17
  mSvc := paramWord img 18
  dSvc := paramWord img 19
  dTrip := paramWord img 20
  aPlan := paramWord img 21
  aAcc := paramWord img 22
  aUnit := paramWord img 23
  aFloor := paramWord img 24
  aCap := paramWord img 25
  mCar := paramWord img 26
  maxLoad := paramWord img 27
  mExtra := paramWord img 28
  tR := paramWord img 29
  parkFactor := paramWord img 30
  tolProve := paramWord img 31
  tolWarn := paramWord img 32
  tolTrip := paramWord img 33
  markWindow := paramWord img 34
  tStatus := paramWord img 35
  tStale := paramWord img 36
  tLost := paramWord img 37
  tDisp := paramWord img 38
  tConsent := paramWord img 39
  tLoad := paramWord img 40
  tSamp := paramWord img 41
  tStill := paramWord img 42
  tStage := paramWord img 43
  tDetMax := paramWord img 44
  scaleSheave := paramWord img 45
  scaleA := paramWord img 46
  scaleB := paramWord img 47
  suppress1 := paramWord img 48
  suppress2 := paramWord img 49
  suppress3 := paramWord img 50
  suppress4 := paramWord img 51
  posDaLow := paramWord img 52
  posDaHigh := paramWord img 53
  posDbLow := paramWord img 54
  posDbHigh := paramWord img 55

/-- Block record `k` of the image, without its flag bits that must be 0 (R197). -/
def parseBlock (img : List Byte) (k : Nat) : Block :=
  let o := 232 + 20 * k
  { length := int4At img o
    vLim := int4At img (o + 4)
    sA := (nat2At img (o + 8) : Nat)
    sB := (nat2At img (o + 10) : Nat)
    balance := int4At img (o + 12)
    markerA := (byteAt img (o + 16)).toNat
    markerB := (byteAt img (o + 17)).toNat
    isLoop := bitOf (byteAt img (o + 18)).toNat 0
    noHalt := bitOf (byteAt img (o + 18)).toNat 1 }

def parseBlocks (img : List Byte) (n : Nat) : List Block := (List.range n).map (parseBlock img)

/-- The block containing a position (R3): the walk over the blocks from the valley. -/
def blockIndex : List Block → Int → Nat
  | [], _ => 0
  | [_], _ => 0
  | b :: b' :: rest, x => if x < b.length then 0 else blockIndex (b' :: rest) (x - b.length) + 1

/-- start_k (R2); L for k = N. -/
def blockStart (blocks : List Block) (k : Nat) : Int := ((blocks.take k).map (·.length)).sum

/-- end_k (R2). -/
def blockEnd (blocks : List Block) (k : Nat) : Int := blockStart blocks (k + 1)

/-- p_loop = floor((pA + pB) / 2) (R82). -/
def Params.pLoop (p : Params) : Int := floorDiv (p.pA + p.pB) 2

/-- R191, code 5: the ranges of the numbers table, the suppress codes, the bit rate code, the loop-fitted flag, the scales. -/
def Params.inRange (p : Params) : Bool :=
  within 50000 4000000 p.L && within 0 3 p.bitRate && within 0 1 p.loopFitted
  && within 20 500 p.W && within 100 5000 p.wClear
  && within 500 50000 p.allowTerminal && within 500 50000 p.allowLoop && within 500 50000 p.allowHalt
  && within 500 15000 p.vMax && within 100 2000 p.vInsp && within 50 1000 p.vCreep && within 5 100 p.vStill
  && within 200 10000 p.sCreep && within 0 20000 p.mDec && within 0 50000 p.mAdv && within 0 50000 p.mSvc
  && within 0 2000 p.dSvc && within 0 2000 p.dTrip
  && within 100 1500 p.aPlan && within 100 1500 p.aAcc && within 20 250 p.aUnit && within 100 1500 p.aFloor
  && within 500 4000 p.aCap && within 1000 40000 p.mCar && within 0 20000 p.maxLoad && within 0 200000 p.mExtra
  && within 100 2000 p.tR && within 100 300 p.parkFactor
  && within 50 10000 p.tolProve && within 50 10000 p.tolWarn && within 50 10000 p.tolTrip
  && within 50 5000 p.markWindow
  && within 20 200 p.tStatus && within 60 1000 p.tStale && within 200 5000 p.tLost && within 2000 20000 p.tDisp
  && within 500 10000 p.tConsent && within 1000 120000 p.tLoad && within 5 50 p.tSamp && within 100 2000 p.tStill
  && within 50 1000 p.tStage && within 1000 60000 p.tDetMax
  && within 1 65535 p.scaleSheave && within 1 65535 p.scaleA && within 1 65535 p.scaleB
  && within 0 63 p.suppress1 && within 0 63 p.suppress2 && within 0 63 p.suppress3 && within 0 63 p.suppress4

/-- R191, code 6, for one block record and its flags byte. -/
def Block.inRange (p : Params) (b : Block) (flags : Byte) : Bool :=
  within 1000 250000 b.length && within p.vCreep p.vMax b.vLim && within 0 1000 b.sA && within 0 1000 b.sB
  && within (-20000000) 20000000 b.balance && decide (b.markerA ≤ 63) && decide (b.markerB ≤ 63)
  && decide (flags.toNat ≤ 3)

/-- The lowest index below `n` at which a test fails. -/
def firstFailing (n : Nat) (ok : Nat → Bool) : Option Nat := (List.range n).find? fun k => !ok k

/-- The block `k` of a list, or one that no check accepts past its end. -/
def blockAt (blocks : List Block) (k : Nat) : Block := blocks.getD k ⟨0, 0, 0, 0, 0, 0, 0, false, true⟩

/-- R191, code 8: the lowest block that holds a platform or p_loop it may not hold. -/
def platformFault (p : Params) (blocks : List Block) : Option Nat :=
  let a := blockIndex blocks p.pA
  let b := blockIndex blocks p.pB
  let l := blockIndex blocks p.pLoop
  let bad (k : Nat) : Bool := !((blockAt blocks k).isLoop && !(blockAt blocks k).noHalt)
  firstFailing blocks.length fun k =>
    !((k == a && bad a) || (k == b && bad b) || (k == l && (blockAt blocks l).noHalt))

/-- R191, code 9. -/
def terminalFault (blocks : List Block) : Option Nat :=
  firstFailing blocks.length fun k => !((k == 0 || k + 1 == blocks.length) && (blockAt blocks k).noHalt)

/-- R191, code 10. -/
def Params.ordered (p : Params) : Bool :=
  decide (p.mAdv > p.mSvc) && decide (p.dSvc < p.dTrip) && decide (p.tolProve < p.tolWarn)
  && decide (p.tolWarn < p.tolTrip) && decide (p.tLost > p.tStale) && decide (p.tStale > p.tStatus)
  && decide (p.vCreep ≤ p.vMax) && decide (p.aFloor ≤ p.aCap)

/-- R191, code 11. -/
def Params.detectorsOk (p : Params) : Bool :=
  within 0 p.L p.posDaLow && within 0 p.L p.posDaHigh && within 0 p.L p.posDbLow && within 0 p.L p.posDbHigh
  && decide (p.posDaLow ≠ p.posDaHigh) && decide (p.posDbLow ≠ p.posDbHigh)

/-- The image length the header states (R190, R197). -/
def imageLength (img : List Byte) : Nat :=
  (byteAt img 4 ++ byteAt img 5 ++ byteAt img 6 ++ byteAt img 7).toNat

/-- R190: the faults of the read, codes 2 and 3. -/
def readFault (img : List Byte) : Option Nat :=
  if img.length < 8 then some 2
  else if imageLength img < 274 ∨ 1514 < imageLength img then some 2
  else if img.length < imageLength img then some 2
  else if checkPasses (img.take (imageLength img)) then none else some 3

/-- R190: the parameter section, bytes 8 to 231, was read in full. -/
def paramsRead (img : List Byte) : Bool :=
  decide (8 ≤ img.length) && decide (274 ≤ imageLength img) && decide (imageLength img ≤ 1514) && decide (232 ≤ img.length)

/-- R190: the bit rate code of a faulted station. -/
def faultedBitRate (img : List Byte) : Nat :=
  if paramsRead img && within 0 3 (paramWord img 2) then (paramWord img 2).toNat else 0

/-- R191: the checks in order; the first that fails gives the fault. -/
def validateImage (img : List Byte) : Except ConfigFault Image :=
  let p := parseParams img
  let blocks := parseBlocks img p.N.toNat
  if int4At img 0 ≠ 1 ∨ !within 2 64 p.N ∨ (imageLength img : Int) ≠ 234 + 20 * p.N then .error ⟨4, none⟩
  else if !p.inRange then .error ⟨5, none⟩
  else match firstFailing blocks.length fun k => (blockAt blocks k).inRange p (byteAt img (232 + 20 * k + 18)) with
  | some k => .error ⟨6, some k⟩
  | none =>
    if blockStart blocks blocks.length ≠ p.L then .error ⟨7, none⟩
    else match platformFault p blocks with
    | some k => .error ⟨8, some k⟩
    | none => match terminalFault blocks with
      | some k => .error ⟨9, some k⟩
      | none =>
        if !p.ordered then .error ⟨10, none⟩
        else if !p.detectorsOk then .error ⟨11, none⟩
        else .ok ⟨p, blocks⟩

/-- R189 to R191: what the loader makes of the role straps and the memory's bytes. An invalid role code is fault code 1
whatever the image gives (R193). -/
def loadImage (roleCode : Fin 8) (img : List Byte) : Except ConfigFault Image :=
  match Role.ofCode roleCode.val, readFault img with
  | none, _ => .error ⟨1, none⟩
  | some _, some c => .error ⟨c, none⟩
  | some _, none => validateImage (img.take (imageLength img))

/-- R192: the two sums over the profile portion, from byte 8 to the last byte of the block table. -/
def profileIdentity (img : List Byte) : Byte × Byte :=
  let sums := runningSums ((img.take (imageLength img - 2)).drop 8)
  (byteOf sums.1, byteOf sums.2)

/-! ### Port words (R198) -/

/-- A signed value in a view or event word; free where it does not fit (log 7). -/
def intWord (v : Int) : Word32 := signedField 32 v
def natWord (n : Nat) : Word32 := BitVec.ofNat 32 n
def flagWord (b : Bool) : Word32 := natWord (flagNat b)
/-- A field that is none holds the most negative word (R198). -/
def noneWord : Word32 := 0x80000000
def optWord {α : Type} (f : α → Word32) (v : Option α) : Word32 :=
  match v with
  | none => noneWord
  | some a => f a
/-- A run id in one word (R198). -/
def runIdWord (id : RunId) : Word32 := natWord (id.origin.val * 256 + id.counter.toNat)
/-- A mask in two words, upper first (R198). -/
def maskWords (m : BitVec 64) : List Word32 := [m.extractLsb' 32 32, m.extractLsb' 0 32]

/-- The four words of an event record (R198). DESIGN CHOICE (log 54): without a run id the counter bits are 0, and so are the bits R198
does not name. -/
def eventWords (e : EventRecord) : List Word32 :=
  [natWord (e.kind.code * 16777216 + e.slot.val * 65536 + (e.run.map (·.origin.val)).getD 255 * 256
     + (e.run.map (·.counter.toNat)).getD 0),
   natWord (e.block.getD 255),
   intWord e.value,
   e.time]

/-- The result word (R182, R198); the bits R198 does not name are 0 (DESIGN CHOICE, log 54). -/
def resultWord (p : Port) : Word32 :=
  natWord (2147483648 * flagNat p.busy + 1073741824 * flagNat p.unread + 536870912 * flagNat p.overflow
    + 256 * p.code.toNat + p.result.code)

end Sys2Proof.Machine
end

