-- ==== Sys2Proof/Machine/Flags.lean ====
section
/-! DEFINITION. What the part computes from its state without changing it: roles and times, limits, line standstill, loads in
use and decelerations, stop targets, consents, brake commands, door release, the contents of a STATUS. -/

namespace Sys2Proof.Machine

/-! ### Role, image, times -/

def State.ownSlot (s : State) : Slot := s.straps.slot
def State.role (s : State) : Option Role := Role.ofCode s.straps.roleCode.val
def State.isRole (s : State) (r : Role) : Bool := s.role == some r
def State.isDrive (s : State) : Bool := s.isRole .drive
def State.isCar (s : State) : Bool := s.isRole .carA || s.isRole .carB
/-- A station with an own estimate: DRIVE, CAR_A, CAR_B (R20). -/
def State.hasEstimate (s : State) : Bool := s.isDrive || s.isCar
def State.configFault (s : State) : Bool := s.loader.fault.isSome
def State.listening (s : State) : Bool := s.loader.listenTimer.isSome

/-- R193: the times a faulted station uses, the largest of each range and the smallest T_status; no other parameter. -/
def fallbackParams : Params :=
  { parseParams [] with
    tR := 2000, tStatus := 20, tStale := 1000, tLost := 5000, tDisp := 20000, tConsent := 10000, tLoad := 120000
    tSamp := 50, tStill := 2000, tStage := 1000, tDetMax := 60000 }

def State.params (s : State) : Params :=
  match s.loader.image with
  | some im => im.params
  | none => fallbackParams

def State.blocks (s : State) : List Block :=
  match s.loader.image with
  | some im => im.blocks
  | none => []

/-- The block containing a position (R3). -/
def State.blockOf (s : State) (x : Int) : Nat := blockIndex s.blocks x
def State.block (s : State) (k : Nat) : Block := blockAt s.blocks k
def State.startOf (s : State) (k : Nat) : Int := blockStart s.blocks k
def State.endOf (s : State) (k : Nat) : Int := blockEnd s.blocks k

/-- The block containing a position as an event record names it: none where no profile defines blocks. -/
def State.eventBlock (s : State) (x : Int) : Option Nat := if s.configFault then none else some (s.blockOf x)

/-! ### The run held -/

def State.runId (s : State) : Option RunId := s.run.run.hdr.map (·.id)
def State.runDir (s : State) : Option Dir := s.run.run.hdr.map (·.dir)
/-- dir of the run held; +1 where none is held and no rule uses it. -/
def State.dirSgn (s : State) : Int := (s.runDir.map Dir.sgn).getD 1
def State.isKind (s : State) (k : RunKind) : Bool := s.run.run.hdr.any fun h => h.kind == k
def State.inState (s : State) (st : RunState) : Bool := s.run.state == st
/-- MOVING or STOPPING. -/
def State.inMotion (s : State) : Bool := s.inState .moving || s.inState .stopping

def State.holdsEmpty (s : State) : Bool := s.run.run.holds.toList.all (·.isNone)
/-- The hold set contains a slot (R144). -/
def State.holdsSlot (s : State) (i : Slot) : Bool := (s.run.run.holds.get i).isSome
/-- The own hold flag (R145). -/
def State.holdFlag (s : State) : Bool :=
  s.holdsSlot s.ownSlot || s.run.run.holds.toList.any (· == some true)
/-- The sum of 2^i over the slots for which a test holds (R160). -/
def maskOf (f : Slot → Bool) : Nat := (slots.map fun i => if f i then 2 ^ i.val else 0).sum

/-- L for UP, 0 for DOWN (R82). -/
def State.terminal (s : State) : Int :=
  match s.runDir with
  | some .down => 0
  | _ => s.params.L

/-- The supervision position; 0 in NO_POSITION, where no rule uses it. -/
def State.xSup (s : State) : Int := (s.sup.est.map (·.1)).getD 0
def State.vSup (s : State) : Int := (s.sup.est.map (·.2)).getD 0
def State.noPosition (s : State) : Bool := s.sup.est.isNone

/-- The loop lies ahead: dir × (p_loop − x_sup) > W; not in NO_POSITION (R82). -/
def State.loopAhead (s : State) (dir : Dir) : Bool :=
  !s.noPosition && decide (dir.sgn * (s.params.pLoop - s.xSup) > s.params.W)

/-! ### Records -/

def State.peer (s : State) (i : Slot) : PeerRecord := s.peers.get i

/-- The contents of a record that is PRESENT. -/
def PeerRecord.fresh (r : PeerRecord) : Option Status := if r.state = .present then r.contents else none
def Status.role (st : Status) : Option Role := Role.ofCode st.roleCode.val

/-- The slot and contents of the PRESENT record with a role; at most one for each role but WAYSIDE (R63). -/
def State.presentWith (s : State) (r : Role) : Option (Slot × Status) :=
  slots.findSome? fun i => (s.peer i).fresh.bind fun st => if st.role = some r then some (i, st) else none

def State.driveRecord (s : State) : Option (Slot × Status) := s.presentWith .drive

/-- A slot holds a live claim on a role (R63). -/
def PeerRecord.liveClaim (r : PeerRecord) (role : Role) : Bool :=
  (r.state == .present || (r.state == .excluded && r.exclusion == .role))
  && (r.contents.any fun st => st.role == some role) && r.staleTimer.isSome

/-- Line standstill: the own flag at the DRIVE (R24), the drive's report and a car's own flag elsewhere (R25). -/
def State.lineStandstill (s : State) : Bool :=
  if s.isDrive then s.pos.standstill
  else (s.driveRecord.any fun d => d.2.standstill) && (!s.isCar || s.pos.standstill)

/-! ### Proof map, restrictions, limits (R14, R15, R18, R19) -/

def State.proven (s : State) (k : Nat) : Bool := s.profile.proof.getLsbD k

/-- The combined proof mask at the DRIVE (R14). -/
def State.combinedProven (s : State) (k : Nat) : Bool :=
  s.proven k && slots.all fun i => (s.peer i).fresh.all fun st => st.proof.getLsbD k

/-- The blocks an entry covers, of `n` (R15). -/
def Restriction.covers (r : Restriction) (n k : Nat) : Bool :=
  let inside := if r.summit then decide ((n : Int) - r.count ≤ k) else decide ((k : Int) < r.count)
  xor r.complement inside

/-- The smallest of the values of R18, with the proof term given. -/
def State.limitWith (s : State) (proven : Bool) (k : Nat) : Int :=
  let p := s.params
  let base := min (s.block k).vLim p.vMax
  let restricted := s.profile.restrictions.toList.foldl (fun acc r =>
    match r with
    | some e => if e.covers s.blocks.length k then min acc e.speed else acc
    | none => acc) base
  let proved := if proven then restricted else min restricted p.vInsp
  if s.isKind .inspection then min proved p.vInsp else proved

/-- The effective limit of a block (R18). -/
def State.limit (s : State) (k : Nat) : Int := s.limitWith (s.proven k) k
/-- The drive limit of a block (R19). -/
def State.driveLimit (s : State) (k : Nat) : Int := s.limitWith (s.combinedProven k) k

/-! ### Loads, masses, decelerations (R78, R128 to R131) -/

/-- The load in use of a car, when known (R78). -/
def State.loadInUse (s : State) (car : Role) : Option Int :=
  if s.isRole car then if s.car.loadFresh then some (s.car.load : Int) else none
  else (s.presentWith car).bind fun d => if d.2.loadFresh then some (d.2.load : Int) else none

/-- The loads a computation tries: the known value, or both bounds (R128). -/
def State.loadChoices (s : State) (car : Role) : List Int :=
  match s.loadInUse car with
  | some l => [l]
  | none => [0, s.params.maxLoad]

/-- The combinations of the loads of car A and car B (R128). -/
def State.combinations (s : State) : List (Int × Int) :=
  (s.loadChoices .carA).flatMap fun a => (s.loadChoices .carB).map fun b => (a, b)

/-- M (R128). -/
def Params.totalMass (p : Params) (la lb : Int) : Int := (p.mCar + la) + (p.mCar + lb) + p.mExtra
/-- N_k = mB·sB − mA·sA + R (R129). -/
def Params.driftNumerator (p : Params) (b : Block) (la lb : Int) : Int :=
  (p.mCar + lb) * b.sB - (p.mCar + la) * b.sA + b.balance

/-- The smallest of a list; 0 for an empty one. -/
def listMin : List Int → Int
  | [] => 0
  | v :: vs => vs.foldl min v
/-- The largest of a list; 0 for an empty one. -/
def listMax : List Int → Int
  | [] => 0
  | v :: vs => vs.foldl max v

/-- The guaranteed deceleration for one combination of loads, rounded down and limited to a_cap (R131). -/
def Params.guaranteedFor (p : Params) (a : Int) (b : Block) (dir : Dir) (loads : Int × Int) : Int :=
  let m := p.totalMass loads.1 loads.2
  min p.aCap
    (floorDiv (a * (1000 * m) - dir.sgn * (9807 * p.driftNumerator b loads.1 loads.2)) (1000 * m))

def stageWeight : Stage → Nat
  | .w1 => 1 | .w2 => 2 | .w4 => 4 | .w8 => 8

def allStages : List Stage := [.w1, .w2, .w4, .w8]

def Brakes.unit (b : Brakes) : Stage → StageUnit
  | .w1 => b.stage1 | .w2 => b.stage2 | .w4 => b.stage4 | .w8 => b.stage8

/-- A stage is commanded by a level when its weight appears in the level's binary form (R161). -/
def levelCommands (level : Nat) (st : Stage) : Bool := level / stageWeight st % 2 == 1

/-- A level is achievable when healthy stages alone form it (R163). -/
def Brakes.achievable (b : Brakes) (level : Nat) : Bool :=
  decide (level ≤ 15) && allStages.all fun st => !(levelCommands level st && (b.unit st).failed)

/-- The highest achievable level: the sum of the healthy weights (R163). -/
def Brakes.highest (b : Brakes) : Nat := (allStages.map fun st => if (b.unit st).failed then 0 else stageWeight st).sum

/-- The smallest achievable level at or above a requested one, else the highest (R163). -/
def Brakes.appliedLevel (b : Brakes) (requested : Int) : Nat :=
  ((List.range 16).find? fun l => b.achievable l && decide (requested ≤ (l : Int))).getD b.highest

/-- Some achievable level reaches a required level (R166). -/
def Brakes.reaches (b : Brakes) (required : Int) : Bool := decide (required ≤ (b.highest : Int))

/-- The available service deceleration A (R130). -/
def State.serviceDecel (s : State) : Int :=
  if s.isDrive then s.brakes.highest * s.params.aUnit else 15 * s.params.aUnit

/-- An entry of the deceleration table (R131): the lowest over the load combinations. -/
def State.guaranteed (s : State) (dir : Dir) (k : Nat) : Int :=
  listMin (s.combinations.map (s.params.guaranteedFor s.serviceDecel (s.block k) dir))

/-- The entry the station uses: of the run direction, or the lower of both while it holds no run (R131). -/
def State.guaranteedInUse (s : State) (k : Nat) : Int :=
  match s.runDir with
  | some d => s.guaranteed d k
  | none => min (s.guaranteed .up k) (s.guaranteed .down k)

/-- The blocks from one to another, inclusive, in either order. -/
def blockRange (i j : Nat) : List Nat := (List.range (max i j + 1 - min i j)).map (· + min i j)

/-- The lowest entry in use over the blocks from one to another (R95, R109, R134). -/
def State.lowestGuaranteed (s : State) (i j : Nat) : Int := listMin ((blockRange i j).map s.guaranteedInUse)

/-! ### Stops and targets (R106, R151, R152) -/

def State.firstPending (s : State) : Option StopEntry := s.run.run.stops.find? fun e => e.status == .pending
def State.lastReached (s : State) : Option StopEntry := s.run.run.stops.reverse.find? fun e => e.status == .reached

/-- The current leg is a loop leg: its stop is the LOOP entry (R106). -/
def State.loopLeg (s : State) : Bool := s.firstPending.any fun e => e.kind == .loop

/-- The run's current stop target and its allowance (R106): the berthing target on a loop leg, and the drive's target where the
list has no PENDING entry at it (R99, log 28). -/
def State.currentStop (s : State) : Option (Int × Int) :=
  match s.run.run.driven, s.firstPending with
  | some t, some e => some (t, e.allowance)
  | some t, none => some (t, s.params.allowHalt)
  | none, some e => some (if e.kind = .loop then s.run.run.berth.getD e.pos else e.pos, e.allowance)
  | none, none => none

/-- The stop target in use and its allowance: in STOPPING the nearer of the hold target and the current stop (R152). -/
def State.stopInUse (s : State) : Option (Int × Int) :=
  match s.inState .stopping, s.run.run.holdTarget, s.currentStop with
  | true, some h, some (t, a) => if s.dirSgn * h < s.dirSgn * t then some (h, s.params.allowHalt) else some (t, a)
  | true, some h, none => some (h, s.params.allowHalt)
  | _, _, c => c

/-- The target field of a STATUS (R70, R106). DESIGN CHOICE (log 62): 0 where R106 names no entry, in DISPATCH to HELD with no PENDING
entry and in DWELL and ARRIVED with no REACHED one. -/
def State.statusTarget (s : State) : Int :=
  match s.run.state with
  | .dispatch | .awaitGo | .moving | .stopping | .held => (s.firstPending.map (·.pos)).getD 0
  | .dwell | .arrived => (s.lastReached.map (·.pos)).getD 0
  | .idle | .tripped => 0

/-- The stop count: the entries of the list, or the adopted count while the rejoined flag is set (R82, R123). -/
def State.stopCount (s : State) : Nat :=
  if s.run.run.rejoined then s.run.run.adopted.getD 0 else s.run.run.stops.length

/-! ### Trips, demands, brakes (R141, R164, R165, R173) -/

def State.originsEmpty (s : State) : Bool := s.trips.origins.toList.all (·.isNone)
/-- The trip outputs are asserted (R173). -/
def State.tripAsserted (s : State) : Bool := s.trips.latch.isSome || !s.originsEmpty

/-- A record whose hold flag, trip flag and demand count: PRESENT or EXCLUDED (R67). -/
def PeerRecord.heard (r : PeerRecord) : Option Status :=
  if r.state = .present ∨ r.state = .excluded then r.contents else none

def Level.worse (a b : Level) : Level := if a.code < b.code then b else a

/-- The highest of the own demand and the demands heard (R141). -/
def State.heardDemand (s : State) : Level :=
  slots.foldl (fun acc i => match (s.peer i).heard with | some st => acc.worse st.demand | none => acc) s.env.demand

/-- The combined demand of the DRIVE (R141). In CONFIG_FAULT it is NONE after start-up, though the own demand is TRIP (R143), until a
first accepted STATUS, which leaves a record other than ABSENT, forms it anew. -/
def State.combinedDemand (s : State) : Level :=
  if s.configFault && slots.all (fun i => (s.peer i).state == .absent) then .none else s.heardDemand

/-- The combined demand is SERVICE or TRIP. -/
def State.braking (s : State) : Bool := decide (2 ≤ s.combinedDemand.code)

/-- The car's track brake scope (R173). -/
def State.trackBrakeScope (s : State) : Bool :=
  s.trips.latch == some .recon || s.trips.latch == some .overspeed
  || s.trips.origins.toList.any (· == some .recon)

/-- The required parking level of one block for one combination (R165). -/
def Params.requiredFor (p : Params) (b : Block) (loads : Int × Int) : Int :=
  ceilDiv (magnitude (9807 * p.driftNumerator b loads.1 loads.2) * p.parkFactor)
    (1000 * p.totalMass loads.1 loads.2 * 100 * p.aUnit)

/-- The required parking level (R165): of x_D's block, or of every block while the quality is UNKNOWN. -/
def State.parkingRequired (s : State) : Int :=
  let ks := if s.pos.quality = .unknown then List.range s.blocks.length else [s.blockOf s.pos.x]
  listMax (ks.flatMap fun k => s.combinations.map (s.params.requiredFor (s.block k)))

/-- Parking applies: neither a trip, nor a braking demand, nor MOVING or STOPPING (R164, cases 4 and 4a). DESIGN CHOICE (log 67): R164's
table takes any other run state, its list of six leaves out TRIPPED; the model follows the table in a TRIPPED whose trip has ended. -/
def State.parkingApplies (s : State) : Bool :=
  s.isDrive && !s.configFault && !s.tripAsserted && !s.braking && !s.inMotion

/-- The level commanded of the healthy stages (R164). -/
def State.serviceLevel (s : State) : Nat :=
  if s.tripAsserted || s.braking then s.brakes.highest
  else if s.inMotion then 0
  else if s.brakes.parkDegraded then s.brakes.highest
  else (s.brakes.parkRequested.map s.brakes.appliedLevel).getD s.brakes.highest

/-- The command of a stage: a FAILED stage is commanded applied (R162, R164). -/
def State.stageCommand (s : State) (st : Stage) : Bool :=
  (s.brakes.unit st).failed || levelCommands s.serviceLevel st

/-- The emergency brake command (R164). -/
def State.emergencyCommand (s : State) : Bool :=
  s.tripAsserted || (!s.braking && !s.inMotion && s.brakes.parkDegraded)

def pinOfStage (p : PlantPins) : Stage → Bool
  | .w1 => p.stage1 | .w2 => p.stage2 | .w4 => p.stage4 | .w8 => p.stage8

/-! ### Consent (R94 to R97) -/

/-- Own position as reported: 0 while the quality is UNKNOWN (R20). -/
def State.reportedX (s : State) : Int := if s.pos.quality = .unknown then 0 else s.pos.x

/-- The DRIVE's further conditions (R95). -/
def State.driveConsents (s : State) : Bool :=
  !s.brakes.parkDegraded && decide (s.pos.quality ≠ .unknown)
  && decide (s.params.aFloor ≤ s.lowestGuaranteed (s.blockOf s.pos.x) (s.blockOf s.terminal))

def Det.anyFault (d : Det) : Bool := d.daLow.fault || d.daHigh.fault || d.dbLow.fault || d.dbHigh.fault

/-- The further conditions of the role (R94). -/
def State.roleConsents (s : State) : Bool :=
  match s.role with
  | some .drive => s.driveConsents
  | some .carA | some .carB => s.car.ready && s.pins.doorClosed
  | some .loop => !s.det.anyFault
  | some .wayside => true
  | none => false

/-- The station's consent: its stop count, or none (R94). The run id is its current one. -/
def State.consent (s : State) : Option Nat :=
  if (s.inState .dispatch || s.inState .awaitGo || s.inState .dwell)
    && !s.tripAsserted && !s.configFault && !s.rx.slotConflict && !s.peerCtl.roleConflict && !s.listening
    && !s.noPosition && !s.run.run.abortPending && s.roleConsents
  then some s.stopCount else none

/-- The roles a run requires (R97). -/
def State.requiredRoles (s : State) : List Role :=
  [.carA, .carB] ++ (if s.params.loopFitted = 1 then [.loop] else [])

/-- The slots whose consents are needed: the required slots and the PRESENT WAYSIDE slots (R97). -/
def State.neededSlots (s : State) : List Slot :=
  slots.filter fun i => (s.peer i).fresh.any fun st => st.role.any fun r => s.requiredRoles.contains r || r == .wayside

/-- Each required role has a required slot (R97). -/
def State.rolesFilled (s : State) : Bool := s.requiredRoles.all fun r => (s.presentWith r).isSome

/-- The run id a STATUS consents to, with its stop count (R196). -/
def Status.consentsTo (st : Status) : Option (Option RunId × Nat) := st.consent.map fun n => (st.runId, n)

/-- A consent names the drive's run (R97). -/
def State.consentNamesRun (s : State) (c : Option (Option RunId × Nat)) : Bool :=
  c.any fun c => c.1.isSome && c.1 == s.runId
/-- A consent matches by run id and stop count (R97). -/
def State.consentMatches (s : State) (c : Option (Option RunId × Nat)) : Bool :=
  s.consentNamesRun c && c.any fun c => c.2 == s.stopCount

/-- The consents needed, the drive's own first, the others as the consent view holds them (R97). -/
def State.neededConsents (s : State) : List (Option (Option RunId × Nat)) :=
  (s.consent.map fun n => (s.runId, n)) :: s.neededSlots.map fun i => s.run.run.consents.get i

/-- The conditions of commitment and of the next leg (R98, R114). -/
def State.commitReady (s : State) : Bool :=
  s.holdsEmpty && s.rolesFilled && s.neededConsents.all s.consentMatches

/-- The conditions of a resume from HELD (R155). -/
def State.resumeReady (s : State) : Bool := s.holdsEmpty && s.rolesFilled && !s.tripAsserted

/-- The first cause that applies at the consent timeout (R101). -/
def State.timeoutCause (s : State) : CloseCause :=
  if !s.rolesFilled then .missingPeer
  else if !s.neededConsents.all s.consentNamesRun then .noConsent
  else if !s.neededConsents.all s.consentMatches then .stopMismatch
  else .held

/-! ### Door release (R124) -/

/-- Own x lies within W of a berth of the car. -/
def State.atBerth (s : State) : Bool :=
  let p := s.params
  let near (b : Int) : Bool := decide (magnitude (s.pos.x - b) ≤ p.W)
  near 0 || near p.L || near (if s.isRole .carA then p.pA else p.pB)

/-- What the door release output should be (R124). -/
def State.doorReleaseNow (s : State) : Bool :=
  s.isCar && s.lineStandstill && decide (s.pos.quality ≠ .unknown) && s.atBerth
  && (s.inState .idle || s.inState .dwell || s.inState .arrived || s.inState .held || s.inState .tripped)

/-! ### The contents of a STATUS (R70) -/

/-- The STATUS the station would form now (R70, R196). -/
def State.formStatus (s : State) : Status where
  roleCode := s.straps.roleCode
  profileId := s.loader.profileId
  fault := s.configFault
  runState := s.run.state
  runId := if s.inState .idle then none else s.runId
  kind := (s.run.run.hdr.map (·.kind)).getD .service
  dir := s.runDir.getD .up
  leg := s.run.run.leg
  stopCount := s.stopCount
  decision := s.run.run.decision
  target := s.statusTarget
  consent := s.consent
  hold := s.holdFlag
  trip := s.trips.latch
  x := if s.hasEstimate then s.reportedX else 0
  v := if s.hasEstimate then s.pos.v else 0
  quality := if s.hasEstimate then s.pos.quality else .unknown
  standstill := s.hasEstimate && s.pos.standstill
  demand := s.env.demand
  lastMatched := if s.isCar then s.marker.lastMatched else none
  faultBlock := if s.isCar then s.marker.faultBlock else none
  load := if s.isCar then s.car.load else 0
  loadFresh := s.isCar && s.car.loadFresh
  ready := s.isCar && s.car.ready
  doorClosed := s.isCar && s.pins.doorClosed
  proof := s.profile.proof
  restriction := s.profile.restrictions.get s.ownSlot

/-- ATTN: a record queued or an unread result (R187). -/
def State.attnNow (s : State) : Bool := !s.port.queue.isEmpty || s.port.unread

end Sys2Proof.Machine
end

