-- ==== Sys2Proof/Machine/Ops.lean ====
section
/-! DEFINITION. The shared operations: updates of one block's state, events, command completion, origination of frames and
STATUS, unproving, trips and run closes. -/

namespace Sys2Proof.Machine

/-! ### Updates of one block -/

def State.onPort (s : State) (f : Port → Port) : State := { s with port := f s.port }
def State.onRun (s : State) (f : RunCtl → RunCtl) : State := { s with run := f s.run }
def State.onRecord (s : State) (f : RunRecord → RunRecord) : State := { s with run := { s.run with run := f s.run.run } }
def State.setRunState (s : State) (st : RunState) : State := { s with run := { s.run with state := st } }
def State.onTrips (s : State) (f : Trips → Trips) : State := { s with trips := f s.trips }
def State.onEnv (s : State) (f : Env → Env) : State := { s with env := f s.env }
def State.onBrakes (s : State) (f : Brakes → Brakes) : State := { s with brakes := f s.brakes }
def State.onRef (s : State) (f : SpeedRef → SpeedRef) : State := { s with ref := f s.ref }
def State.onOutputs (s : State) (f : Outputs → Outputs) : State := { s with outputs := f s.outputs }
def State.onRx (s : State) (f : Rx → Rx) : State := { s with rx := f s.rx }
def State.onPeerCtl (s : State) (f : PeerCtl → PeerCtl) : State := { s with peerCtl := f s.peerCtl }
def State.onProfile (s : State) (f : Profile → Profile) : State := { s with profile := f s.profile }
def State.onMarker (s : State) (f : Marker → Marker) : State := { s with marker := f s.marker }
def State.onPos (s : State) (f : Pos → Pos) : State := { s with pos := f s.pos }
def State.onCar (s : State) (f : Car → Car) : State := { s with car := f s.car }
def State.onPins (s : State) (f : PlantPins → PlantPins) : State := { s with pins := f s.pins }
def State.onDet (s : State) (f : Det → Det) : State := { s with det := f s.det }
def State.setOwn (s : State) (o : OwnRecord) : State := { s with own := o }
def State.setSup (s : State) (e : Sup) : State := { s with sup := e }

/-- A vector of eight with the entry of one slot replaced. -/
def setAt {α : Type} (v : Vector α 8) (i : Slot) (a : α) : Vector α 8 := v.set i.val a i.isLt

def State.setPeer (s : State) (i : Slot) (r : PeerRecord) : State := { s with peers := setAt s.peers i r }

def State.line (s : State) : LineId → Line
  | .line1 => s.line1
  | .line2 => s.line2
def State.onLine (s : State) (l : LineId) (f : Line → Line) : State :=
  match l with
  | .line1 => { s with line1 := f s.line1 }
  | .line2 => { s with line2 := f s.line2 }
def otherLine : LineId → LineId
  | .line1 => .line2
  | .line2 => .line1
def lineNumber : LineId → Nat
  | .line1 => 1
  | .line2 => 2

/-! ### Events (R185) -/

/-- A record joins as the newest while fewer than 16 are held; otherwise it is dropped and OVERFLOW is set (R185). -/
def Port.push (p : Port) (e : EventRecord) : Port :=
  if p.queue.length < 16 then { p with queue := p.queue ++ [e] } else { p with overflow := true }

/-- Queue an event with the station's current run id and time. -/
def pushEvent (kind : EventKind) (slot : Slot) (block : Option Nat) (value : Int) (s : State) : State :=
  s.onPort fun p => p.push ⟨kind, slot, s.runId, block, value, s.clock⟩

/-! ### Completion of commands (R179, R180) -/

/-- BUSY clears, the result is set and unread; a result reply formed before no longer covers it (R177). -/
def Port.complete (p : Port) (r : Result) : Port :=
  { p with
    busy := false
    result := r
    unread := true
    reply := p.reply.map fun q => if q.kind = .result then { q with live := false } else q }

/-- The command in the slot completes. -/
def complete (r : Result) (s : State) : State := s.onPort (·.complete r)

/-- A command is tracked: the slot is BUSY with its code (R180). -/
def State.tracking (s : State) (c : CommandName) : Bool := s.port.busy && s.port.code == c.code

/-- A completing event of one command; it does nothing when another command or none is tracked (R180). -/
def completeIf (c : CommandName) (r : Result) (s : State) : State := if s.tracking c then complete r s else s

/-- A completing event of whatever command is tracked. -/
def completeTracked (r : Result) (s : State) : State := if s.port.busy then complete r s else s

/-! ### Originating frames (R45 to R47) -/

/-- A frame joins behind the frames of its own and more urgent priorities (R46). -/
def txInsert (f : TxFrame) : List TxFrame → List TxFrame
  | [] => [f]
  | g :: rest => if f.body.priority < g.body.priority then f :: g :: rest else g :: txInsert f rest

/-- The new STATUS takes the place of the waiting one (R46). -/
def txReplace (f : TxFrame) : List TxFrame → List TxFrame
  | [] => []
  | g :: rest => if g.body.isStatus && !g.sending then f :: rest else g :: txReplace f rest

def waitingStatus (q : List TxFrame) : Bool := q.any fun g => g.body.isStatus && !g.sending

/-- The frame a full queue would displace: the newest waiting frame of the largest priority value (R47). The queue is ordered
by priority and then by time, so it is the last waiting one. -/
def lastWaiting (q : List TxFrame) : Option TxFrame := q.reverse.find? fun g => !g.sending

/-- The queue without its last waiting frame. -/
def dropLastWaiting (q : List TxFrame) : List TxFrame := (q.reverse.eraseP fun g => !g.sending).reverse

/-- What an offer does to one queue: the new queue, and the frame lost on that line (R46, R47). -/
def offerQueue (f : TxFrame) (q : List TxFrame) : List TxFrame × Option TxFrame :=
  if f.body.isStatus && waitingStatus q then (txReplace f q, none)
  else if q.length < 8 then (txInsert f q, none)
  else match lastWaiting q with
    | some g => if f.body.priority < g.body.priority then (txInsert f (dropLastWaiting q), some g) else (q, some f)
    | none => (q, some f)

/-- Offer a frame to one line, with TX_DROP where one is lost (R47). -/
def offerLine (l : LineId) (f : TxFrame) (s : State) : State :=
  let r := offerQueue f (s.line l).queue
  let s := s.onLine l fun x => { x with queue := r.1 }
  match r.2 with
  | some g => pushEvent .txDrop s.ownSlot none ((lineNumber l * 256 + g.body.kindCode : Nat) : Int) s
  | none => s

/-- A block originates a frame: offered to both lines, or discarded in the listen period (R45). DESIGN CHOICE (log 36): where it
costs a frame on both lines, Line 1's TX_DROP is queued first. -/
def originate (b : Body) (s : State) : State :=
  if s.phase ≠ .running ∨ s.listening then s
  else
    let f : TxFrame := ⟨s.rx.nextFrameId, b, none, false⟩
    (offerLine .line2 f (offerLine .line1 f s)).onRx fun r => { r with nextFrameId := r.nextFrameId + 1 }

/-- Originate a frame that carries the current run id; no frame where no run id is held. -/
def originateRun (b : RunId → Body) (s : State) : State :=
  match s.runId with
  | some id => originate (b id) s
  | none => s

/-- Originate a STATUS: form it, set the own record, restart the STATUS timer; in the listen period the frame is discarded
and the timer is left (R60, R69, R70). -/
def sendStatus (s : State) : State :=
  let st := s.formStatus
  let s := s.setOwn ⟨st, s.clock⟩
  if s.listening then s
  else originate (.status st) (s.onPeerCtl fun c => { c with statusTimer := startTimer s.params.tStatus })

/-- How many of the six things of R69 differ between two STATUS contents. -/
def announcedChanges (a b : Status) : Nat :=
  flagNat (a.runState != b.runState) + flagNat (a.hold != b.hold) + flagNat (a.trip != b.trip)
  + flagNat (a.consentsTo != b.consentsTo) + flagNat (a.demand != b.demand) + flagNat (a.decision != b.decision)

/-- A STATUS at once for each change of what R69 lists since the last STATUS was formed. -/
def announce (s : State) : State := applyTimes sendStatus (announcedChanges s.own.status s.formStatus) s

/-- A car's door release is evaluated (R124). -/
def refreshDoor (s : State) : State := if s.isCar then s.onOutputs fun o => { o with doorRelease := s.doorReleaseNow } else s

/-! ### Unproving (R11, R12) -/

/-- An event of R11: the block becomes UNPROVEN and an open traversal of it ends. -/
def unproveBlock (k : Nat) (cause : UnproveCause) (slot : Slot) (s : State) : State :=
  let was := s.proven k
  let s := s.onProfile fun p =>
    { p with
      proof := p.proof &&& ~~~(1#64 <<< k)
      traversal := if p.traversal.any fun t => t.block == k then none else p.traversal }
  if was then pushEvent .blockUnproven slot (some k) cause.code s else s

/-- An event of R12: every block UNPROVEN, an open traversal abandoned, ALL_UNPROVEN queued (R13). -/
def unproveEvery (cause : Int) (slot : Slot) (s : State) : State :=
  pushEvent .allUnproven slot none cause (s.onProfile fun p => { p with proof := 0, traversal := none })

/-! ### Ending a run (R80, R169) -/

/-- The marker monitor disarms (R31). -/
def Marker.disarm (m : Marker) : Marker := { m with armed := false, awaiting := false, expected := none }

/-- The run record returns to its start-up values, but for what is kept of its identity; the ready latch clears, the marker
monitor disarms, the traversal is abandoned, v_ref is 0 (R80, R96, R31, R10, R126). -/
def clearRun (keep : Option RunHdr) (st : RunState) (s : State) : State :=
  ((((s.onRun fun r => { r with state := st, run := { RunRecord.empty with hdr := keep } }).onCar
    fun c => { c with ready := false }).onMarker Marker.disarm).onProfile
    fun p => { p with traversal := none }).onRef fun _ => ⟨0, none⟩

/-- The entry to TRIPPED (R169): tracked commands complete with TRIPPED, the record keeps run id, kind and direction. -/
def enterTripped (s : State) : State :=
  if s.inState .tripped then s else announce (refreshDoor (clearRun s.run.run.hdr .tripped (completeTracked .tripped s)))

/-- A request that finds the latch set: the first one of a moment is kept for a RESET_TRIP of that moment (R174). A
moment lasts until the clock advances (DEDUCED, log 45). -/
def keepRequest (cause : TripCause) (s : State) : State := s.onTrips fun t => { t with kept := some (t.kept.getD cause) }

/-- A request to set the trip latch (R168): a latch already set keeps its cause, and the request is kept for this moment (R174);
otherwise R169 and, for RECON, R12 before any STATUS is formed. -/
def latchTrip (cause : TripCause) (s : State) : State :=
  if s.trips.latch.isSome then keepRequest cause s
  else
    let s := s.onTrips fun t => { t with latch := some cause }
    let s := if cause = .recon then unproveEvery 5 s.ownSlot s else s
    let s := originate (.trip cause) s
    enterTripped (pushEvent .tripLatched s.ownSlot none (cause.code : Int) (announce s))

/-- The result a run close gives a tracked command (R104, R118, R146, R157, R182). -/
def closeResult (code : Byte) (cause : CloseCause) : Result :=
  if code = CommandName.abort.code ∧ cause = .aborted then .done
  else if code = CommandName.requestRun.code ∧ cause = .contention then .refusedContention
  else .closed cause

/-- A run close (R80) with RUN_CLOSED (R105) and the STATUS of its change of run state, at once (R69, R88). -/
def closeRun (cause : CloseCause) (slot : Slot) (s : State) : State :=
  let s := pushEvent .runClosed slot none (cause.code : Int) s
  announce (refreshDoor (clearRun none .idle (completeTracked (closeResult s.port.code cause) s)))

end Sys2Proof.Machine
end

