-- ==== Sys2Proof/Machine/Envelope.lean ====
section
/-! DEFINITION. The braking envelope: targets, stopping distances, levels and the own demand (R127 to R140). -/

namespace Sys2Proof.Machine

/-- A supervision target: position, target speed and block (R133, R134). -/
structure Target where
  position : Int
  speed : Int
  block : Nat
deriving DecidableEq, Repr

/-- The stopping distance (R132). -/
def stoppingDistance (tR v vt a : Int) : Int :=
  if v > vt then ceilDiv (v * tR) 1000 + ceilDiv (v ^ 2 - vt ^ 2) (2 * a) else 0

/-- The end of authority (R133). -/
def State.eoa (s : State) : Option Target :=
  match s.runDir, s.stopInUse with
  | some d, some (t, a) => some ⟨t + d.sgn * a, 0, s.blockOf (t + d.sgn * a)⟩
  | _, _ => none

/-- The boundaries with the block left and the block entered in a direction, in run order. -/
def State.boundaries (s : State) : Dir → List (Int × Nat × Nat)
  | .up => (List.range s.blocks.length).map fun k => (s.startOf k, k - 1, k)
  | .down => ((List.range s.blocks.length).map fun k => (s.startOf k, k, k - 1)).reverse

/-- The boundary targets: strictly ahead, before the EOA, with a lower limit in the block entered (R133). -/
def State.boundaryTargets (s : State) (d : Dir) (x eoa : Int) : List Target :=
  (s.boundaries d).filterMap fun b =>
    if 0 < d.sgn * (b.1 - x) ∧ 0 < d.sgn * (eoa - b.1) ∧ s.limit b.2.2 < s.limit b.2.1
    then some ⟨b.1, s.limit b.2.2, b.2.2⟩ else none

/-- The list of supervision targets in run order, the EOA last (R133). -/
def State.targets (s : State) : List Target :=
  match s.inMotion, s.sup.est, s.runDir, s.eoa with
  | true, some (x, _), some d, some e => s.boundaryTargets d x e.position ++ [e]
  | _, _, _, _ => []

/-- The level of a stopping distance against a distance (R135). -/
def Params.distanceLevel (p : Params) (d dist : Int) : Level :=
  if d > dist then .trip else if d + p.mSvc > dist then .service else if d + p.mAdv > dist then .advise else .none

/-- A target's level (R135, R137) with what the run view shows of it (R134). -/
def State.assess (s : State) (t : Target) : Level × Binding :=
  let a := s.lowestGuaranteed (s.blockOf s.xSup) t.block
  let dist := s.dirSgn * (t.position - s.xSup)
  let d := stoppingDistance s.params.tR (magnitude s.vSup) t.speed (max a s.params.aFloor)
  (if a < s.params.aFloor then .trip else s.params.distanceLevel d dist, ⟨t.position, t.speed, dist, d, a⟩)

/-- One target binds more than another: higher level, or equal level and smaller D − d (R135). -/
def bindsMore (a b : Level × Binding) : Bool :=
  decide (b.1.code < a.1.code)
  || (a.1 == b.1 && decide (a.2.distance - a.2.stopping < b.2.distance - b.2.stopping))

/-- The binding target (R135). DESIGN CHOICE (log 50): of targets equal in level and in D − d the first in run order binds. -/
def bindingOf (ts : List (Level × Binding)) : Option (Level × Binding) :=
  ts.foldl (fun acc t => match acc with | none => some t | some b => if bindsMore t b then some t else some b) none

/-- The level from overspeed (R136). -/
def State.overspeed (s : State) : Level :=
  if s.noPosition then .none
  else
    let limit := s.limit (s.blockOf s.xSup)
    if magnitude s.vSup > limit + s.params.dTrip then .trip
    else if magnitude s.vSup > limit + s.params.dSvc then .service else .none

/-- A drive record is PRESENT and shows MOVING or STOPPING (R138). -/
def State.driveInMotion (s : State) : Bool :=
  s.driveRecord.any fun d => d.2.runState == .moving || d.2.runState == .stopping

/-- Motion that no run allows (R138). -/
def State.uncommanded (s : State) : Bool :=
  match s.run.state with
  | .tripped => false
  | .moving | .stopping => s.sup.entered.any fun e => decide (s.dirSgn * e.v < -s.params.vStill)
  | .idle =>
    !(!s.isDrive && s.driveInMotion) && s.sup.entered.any fun e => decide (magnitude e.v > s.params.vStill)
  | .dispatch | .awaitGo | .held | .dwell | .arrived =>
    s.sup.entered.any fun e => decide (magnitude e.v > s.params.vStill)

/-- The station level (R139). -/
def State.stationLevel (s : State) : Level :=
  let ofTargets := (s.targets.map s.assess).foldl (fun acc t => acc.worse t.1) Level.none
  let lost := if s.noPosition && s.inMotion then Level.service else .none
  ((ofTargets.worse s.overspeed).worse lost).worse (if s.uncommanded then .trip else .none)

/-- The cause a level of TRIP names (R139). -/
def State.tripCauseFound (s : State) : TripCause :=
  if s.uncommanded then .uncommanded else if s.overspeed = .trip then .overspeed else .envelope

/-- The own demand after an evaluation (R140). -/
def demandAfter (latched standstill : Bool) (level demand : Level) : Level :=
  if latched then .trip
  else if demand.code < level.code then level
  else match demand with
    | .service => if level = .none ∨ standstill then level else .service
    | .none | .advise | .trip => level

/-- One evaluation leaves level, own demand and binding target (R127). -/
def evaluateOnce (s : State) : State :=
  s.onEnv fun e =>
    { level := s.stationLevel
      demand := demandAfter s.trips.latch.isSome s.lineStandstill s.stationLevel e.demand
      binding := (bindingOf (s.targets.map s.assess)).map (·.2) }

/-- An evaluation with the trip it asks for, and the evaluation that a latched trip calls for (R127, R139). A station in
CONFIG_FAULT makes none. -/
def evaluate (s : State) : State :=
  if s.configFault then s
  else if s.stationLevel = .trip then
    evaluateOnce (latchTrip s.tripCauseFound (evaluateOnce s))
  else evaluateOnce s

/-! ### The evaluations within an event (R127) -/

/-- The effective limits of the blocks, in order. -/
def State.limits (s : State) : List Int := (List.range s.blocks.length).map s.limit

/-- What R127 lists beside a recomputation is the same in both states: the stop target in use with its allowance, the run state, the
effective limits, the available deceleration, the loads in use, the line standstill, and whether the latch is set. -/
def sameInputs (a b : State) : Bool :=
  a.stopInUse == b.stopInUse && a.run.state == b.run.state && a.limits == b.limits && a.serviceDecel == b.serviceDecel
  && a.loadInUse .carA == b.loadInUse .carA && a.loadInUse .carB == b.loadInUse .carB
  && a.lineStandstill == b.lineStandstill && a.trips.latch.isSome == b.trips.latch.isSome

/-- v_ref stands at 0: outside MOVING and STOPPING, while a trip is asserted, and while the combined demand is SERVICE or TRIP (R107). -/
def State.referenceBarred (s : State) : Bool := !s.inMotion || s.tripAsserted || s.braking

/-- v_ref is set to 0 at the change that bars it (R107). -/
def stopReference (s : State) : State :=
  if s.isDrive && s.referenceBarred then s.onRef fun r => { r with vref := 0 } else s

/-! ### Parking (R165, R166) -/

/-- The block of x_D in an event of the output stage (R175); none without a profile or with the quality UNKNOWN (log 23). -/
def State.driveBlock (s : State) : Option Nat := if s.pos.quality = .unknown then none else s.eventBlock s.pos.x

/-- The parking level is formed while parking applies, with PARK_DEGRADED (R165, R166). It depends on no more than R165 names, so forming
it again where none of that has changed changes nothing. -/
def formParking (s : State) : State :=
  if s.parkingApplies then
    let required := s.parkingRequired
    let degraded := !s.brakes.reaches required
    let was := s.brakes.parkDegraded
    let s := s.onBrakes fun b => { b with parkRequested := some required, parkDegraded := degraded }
    if degraded && !was then pushEvent .parkDegraded s.ownSlot s.driveBlock (1 + 256 * required) s
    else if was && !degraded then pushEvent .parkDegraded s.ownSlot s.driveBlock 0 s
    else s
  else s.onBrakes fun b => { b with parkRequested := none }

/-- What hangs on the combined demand, on the drift of x_D's block and on the loads is brought up to date at once: v_ref (R107, R141), the
parking level with PARK_DEGRADED (R142, R165, R166), and a STATUS for a demand or a consent that changed (R69). -/
def followDemand (s : State) : State := announce (formParking (stopReference s))

/-- An evaluation, which hands its results on at once: v_ref at 0 where the combined demand is then SERVICE or TRIP (R107, R141), the
parking level of the drift and the loads it was made with (R142, R165), and a STATUS (R127, R140). -/
def reevaluate (s : State) : State := followDemand (evaluate s)

/-- The evaluation that a part of an event calls for, where that part changed what R127 lists; a TRIP it finds is latched before the
next part. DESIGN CHOICE (log 57): what one rule changes at once is one part, and the parts are taken in the order of the event. -/
def reevaluateIfChanged (before s : State) : State :=
  if sameInputs before s then s else reevaluate s

/-- What an entered run state brings at once: its STATUS (R69), the door release (R124) and an evaluation (R127). -/
def runStateEntered (s : State) : State := reevaluate (refreshDoor (announce s))

end Sys2Proof.Machine
end

