-- ==== Sys2Proof/Machine/Traversal.lean ====
section
/-! DEFINITION. The traversal record of the profile table (R8 to R10). -/

namespace Sys2Proof.Machine

/-- The proving conditions on the spread and the qualities (R9). The third condition is kept by ending the record at a marker fault
for its block (R11). DESIGN CHOICE (log 33): only a fault taken while the record is open counts; one taken just before it opened does
not keep the clean flag from being set at the opening (R8). -/
def State.provingConditions (s : State) : Bool :=
  decide (s.sup.spread ≤ s.params.tolProve) && s.sup.entered.all (·.confirmed)

/-- A traversal may be open: MOVING, STOPPING, HELD or DWELL (R8). -/
def State.traversing (s : State) : Bool :=
  s.inState .moving || s.inState .stopping || s.inState .held || s.inState .dwell

/-- A record opens for a block (R8). -/
def openTraversal (k : Nat) (entry : Int) (s : State) : State :=
  s.onProfile fun p => { p with traversal := some ⟨k, entry, s.provingConditions, s.sup.spread⟩ }

/-- The check of R9 on an open record: the greatest spread rises and the clean flag clears at a failure. -/
def checkTraversal (s : State) : State :=
  s.onProfile fun p =>
    { p with traversal := p.traversal.map fun t =>
        { t with greatest := max t.greatest s.sup.spread, clean := t.clean && s.provingConditions } }

def emptyTraversal (s : State) : State := s.onProfile fun p => { p with traversal := none }

/-- Completion (R10): with the clean flag set the block becomes PROVEN, with BLOCK_PROVEN where it was not (R13). -/
def completeTraversal (t : Traversal) (s : State) : State :=
  let s := emptyTraversal s
  if t.clean then
    let was := s.proven t.block
    let s := s.onProfile fun p => { p with proof := p.proof ||| (1#64 <<< t.block) }
    if was then s else pushEvent .blockProven s.ownSlot (some t.block) t.greatest s
  else s

/-- The far boundary of a traversed block counts as crossed by x_sup (R10, R3). -/
def State.farCrossed (s : State) (dir : Dir) (k : Nat) (x : Int) : Bool :=
  match dir with
  | .up => decide (k < s.blockOf x) || (k + 1 == s.blocks.length && decide (s.params.L - x ≤ s.params.W))
  | .down => decide (s.blockOf x < k) || (k == 0 && decide (x ≤ s.params.W))

/-- x_sup has left the block back across its entry boundary (R10, R3). -/
def State.leftBack (s : State) (dir : Dir) (k : Nat) (x : Int) : Bool :=
  match dir with
  | .up => decide (s.blockOf x < k)
  | .down => decide (k < s.blockOf x)

/-- An update of x_sup ends an open record or leaves it open (R10). -/
def settleTraversal (dir : Dir) (x : Int) (s : State) : State :=
  match s.profile.traversal with
  | none => s
  | some t =>
    if s.farCrossed dir t.block x then completeTraversal t s
    else if s.leftBack dir t.block x then emptyTraversal s
    else s

/-- x_sup crossed a boundary in the run direction: the block it lies in and that boundary (R8, R3). -/
def State.crossing (s : State) (dir : Dir) (old new : Int) : Option (Nat × Int) :=
  match dir with
  | .up => if s.blockOf old < s.blockOf new then some (s.blockOf new, s.startOf (s.blockOf new)) else none
  | .down => if s.blockOf new < s.blockOf old then some (s.blockOf new, s.endOf (s.blockOf new)) else none

/-- The profile table follows a recomputed x_sup, with the x_sup of the recomputation before (R8 to R10, R76). DESIGN CHOICE (log 60): a
record that opens with x_sup already within W of the line's end completes at the next recomputation, not at this one. -/
def followTraversal (old : Option Int) (s : State) : State :=
  match s.runDir, s.sup.est with
  | some dir, some (x, _) =>
    if s.traversing then
      let s := settleTraversal dir x (checkTraversal s)
      match old.bind fun o => s.crossing dir o x with
      | some (k, b) => openTraversal k b s
      | none => s
    else emptyTraversal s
  | _, _ => emptyTraversal s

/-- The boundary behind x_sup in the run direction, and x_sup's block (R8). -/
def State.boundaryBehind (s : State) (dir : Dir) (x : Int) : Nat × Int :=
  let k := s.blockOf x
  (k, match dir with | .up => s.startOf k | .down => s.endOf k)

/-- A record opens at the entry to MOVING with x_sup within W of the boundary behind it (R8). DESIGN CHOICE (log 47): it replaces a
record already open, with the clean flag and the greatest spread set anew. -/
def openAtEntry (s : State) : State :=
  match s.inState .moving, s.runDir, s.sup.est with
  | true, some dir, some (x, _) =>
    let b := s.boundaryBehind dir x
    if magnitude (x - b.2) ≤ s.params.W then openTraversal b.1 b.2 s else s
  | _, _, _ => s

end Sys2Proof.Machine
end

