-- ==== Sys2Proof/Machine/Estimate.lean ====
section
/-! DEFINITION. Extrapolation, the supervision estimate and the spread (R71 to R76), and the loop berthing target formed from
the estimates that entered (R119 to R121). -/

namespace Sys2Proof.Machine

/-- v × age / 1000 rounded further in the run direction, away from zero with no run (R71). -/
def extrapolationTerm (dir : Option Dir) (v age : Int) : Int :=
  match dir with
  | some .up => ceilDiv (v * age) 1000
  | some .down => floorDiv (v * age) 1000
  | none => if 0 ≤ v * age then ceilDiv (v * age) 1000 else floorDiv (v * age) 1000

/-- The position a record's contents give at a time (R71). -/
def State.extrapolate (s : State) (r : PeerRecord) (st : Status) (t : Word32) : Int :=
  st.x + extrapolationTerm s.runDir st.v (clampTo (-s.params.tStale) s.params.tStale (signedDiff t r.arrival))

/-- A peer estimate that enters the supervision estimate (R72). -/
def State.enteredPeer (s : State) (i : Slot) : Option Entered :=
  (s.peer i).fresh.bind fun st =>
    match st.role with
    | some .loop | some .wayside | none => none
    | some r =>
      if st.quality = .unknown then none
      else some ⟨r, s.extrapolate (s.peer i) st s.clock, st.v, st.quality == .confirmed⟩

/-- The station's own estimate, when it enters (R72). -/
def State.enteredOwn (s : State) : Option Entered :=
  if s.hasEstimate && decide (s.pos.quality ≠ .unknown) then
    s.role.map fun r => ⟨r, s.pos.x, s.pos.v, s.pos.quality == .confirmed⟩
  else none

/-- The estimates that enter (R72). -/
def State.enteredAll (s : State) : List Entered := s.enteredOwn.toList ++ slots.filterMap s.enteredPeer

/-- The speed of largest magnitude with its own sign, the positive one of two equal magnitudes (R73). -/
def fastest (vs : List Int) : Int :=
  vs.foldl (fun acc v => if magnitude acc < magnitude v ∨ (magnitude acc = magnitude v ∧ acc < v) then v else acc) 0

/-- The supervision estimate and the spread of a list of estimates (R73, R76). -/
def formSup (dir : Option Dir) (es : List Entered) : Sup :=
  match es with
  | [] => ⟨none, [], 0⟩
  | _ =>
    let xs := es.map (·.x)
    let fast := fastest (es.map (·.v))
    let est := match dir with
      | some .up => (listMax xs, magnitude fast)
      | some .down => (listMin xs, -magnitude fast)
      | none => (((es.find? fun e => e.role == .drive).map (·.x)).getD (listMax xs), fast)
    ⟨some est, es, listMax xs - listMin xs⟩

/-- The tests of R75 on the spread. -/
def spreadTests (s : State) : State :=
  let s := if s.sup.spread > s.params.tolWarn ∧ !s.noPosition then unproveBlock (s.blockOf s.xSup) .spread s.ownSlot s else s
  if s.sup.spread > s.params.tolTrip then latchTrip .recon s else s

/-! ### The loop berthing target -/

/-- The position of a role among the entered estimates. -/
def State.enteredX (s : State) (r : Role) : Option Int := (s.sup.entered.find? fun e => e.role == r).map (·.x)

/-- The offset of a car from the drive; 0 unless both entered (R119, step 1). -/
def State.carOffset (s : State) (car : Role) : Int :=
  match s.enteredX .drive, s.enteredX car with
  | some d, some c => c - d
  | _, _ => 0

/-- The target of R119 and, where the windows do not intersect, the gap between them (R121). -/
def berthTarget (p : Params) (oA oB : Int) : Int × Option Int :=
  let cA := p.pA - oA
  let cB := p.pB - oB
  let lo := max (cA - p.W) (cB - p.W)
  let hi := min (cA + p.W) (cB + p.W)
  if lo ≤ hi then (floorDiv (lo + hi) 2, none) else (floorDiv (cA + cB) 2, some (lo - hi))

/-- Compute the berthing target while it is not frozen (R119 to R121). In NO_POSITION the target is kept, or p_loop where
there is none. -/
def refreshBerth (s : State) : State :=
  if s.run.run.berthFrozen then s
  else if s.noPosition then
    s.onRecord fun r => { r with berth := some (r.berth.getD s.params.pLoop) }
  else
    let b := berthTarget s.params (s.carOffset .carA) (s.carOffset .carB)
    let was := s.run.run.misaligned
    let s := s.onRecord fun r => { r with berth := some b.1, misaligned := b.2.isSome }
    match b.2, was with
    | some gap, false => pushEvent .loopMisaligned s.ownSlot (s.eventBlock b.1) gap s
    | _, _ => s

/-- The freezing test of R120 at a recomputation. -/
def freezeBerth (s : State) : State :=
  match s.noPosition, s.run.run.berth with
  | false, some t => if s.dirSgn * (t - s.xSup) ≤ s.params.sCreep
      then s.onRecord fun r => { r with berthFrozen := true } else s
  | _, _ => s

/-- On a loop leg in motion or held, each recomputation recomputes the berthing target and makes the freezing test (R120). -/
def updateBerth (s : State) : State :=
  if s.loopLeg && (s.inMotion || s.inState .held) && !s.run.run.berthFrozen then freezeBerth (refreshBerth s) else s

/-- The peer table forms the supervision estimate anew; the profile table follows it and the spread is tested (R74 to R76). -/
def handSup (s : State) : State :=
  let old := s.sup.est.map (·.1)
  let s := s.setSup (formSup s.runDir s.enteredAll)
  spreadTests (followTraversal old s)

/-- A recomputation and what its results bring (R74): profile table and spread tests, an evaluation (R127), and the berthing target with
the evaluation its change calls for. DESIGN CHOICE (log 51): a RECON request comes before the evaluation's, and before the berthing
target, which a trip then leaves without its LOOP_MISALIGNED. -/
def recompute (s : State) : State :=
  let s := reevaluate (handSup s)
  reevaluateIfChanged s (updateBerth s)

/-- A run close with the evaluation of its run state (R127), followed by the recomputation that the loss of the run direction calls
for (R74). -/
def endRun (cause : CloseCause) (slot : Slot) (s : State) : State := recompute (reevaluate (closeRun cause slot s))

end Sys2Proof.Machine
end

