-- ==== Sys2Proof/Machine/MarkerMonitor.lean ====
section
/-! DEFINITION. The count, the snap of the own estimate, and the marker monitor of a car (R21, R22, R31 to R37). -/

namespace Sys2Proof.Machine

/-! ### The count -/

/-- The signed distance of one count in µm along x, by role (R21, R1). -/
def State.countScale (s : State) : Int :=
  match s.role with
  | some .drive => s.params.scaleSheave
  | some .carA => s.params.scaleA
  | some .carB => -s.params.scaleB
  | some .loop | some .wayside | none => 0

/-- The accumulated distance in µm with the counter at `count` (R21). -/
def State.distanceAt (s : State) (count : Word32) : Int :=
  s.pos.um + signedDiff count s.pos.lastCount * s.countScale

/-- µm to mm, rounded up on a run UP and down otherwise (R21). -/
def State.toMillimetres (s : State) (um : Int) : Int :=
  match s.runDir with
  | some .up => ceilDiv um 1000
  | some .down | none => floorDiv um 1000

/-- A snap: x set from outside the count, the origin of the count moved with it, the ring emptied but for the snapped sample
(R22, R23). -/
def snap (x : Int) (q : Quality) (s : State) : State :=
  s.onPos fun p =>
    { p with um := 1000 * x, lastCount := s.pins.counter, x := x, v := 0, quality := q, ring := [(x, s.clock)] }

/-- The own estimate stands in the own record (R21 step 4, R60). -/
def handEstimate (s : State) : State :=
  s.setOwn { s.own with status := { s.own.status with
    x := s.reportedX, v := s.pos.v, quality := s.pos.quality, standstill := s.pos.standstill } }

/-! ### The expectation -/

/-- The marker code of a boundary on this car's track (R4). -/
def State.ownCode (s : State) (b : Block) : Nat := if s.isRole .carB then b.markerB else b.markerA

/-- The block a car enters at start_k (R4). -/
def enteredAtStart (d : Dir) (k : Nat) : Nat :=
  match d with
  | .up => k
  | .down => k - 1

/-- The boundary start_k as an expectation, where it lies strictly ahead and carries a code (R32). -/
def State.expectAt (s : State) (d : Dir) (ref : Int) (k : Nat) : Option Expected :=
  if 0 < d.sgn * (s.startOf k - ref) ∧ s.ownCode (s.block k) ≠ 0
  then some ⟨s.ownCode (s.block k), s.startOf k, enteredAtStart d k⟩ else none

/-- The nearest marked boundary strictly ahead of a reference position (R32). -/
def State.nextExpected (s : State) (ref : Int) : Option Expected :=
  match s.runDir with
  | some .up => (List.range s.blocks.length).findSome? (s.expectAt .up ref)
  | some .down => (List.range s.blocks.length).reverse.findSome? (s.expectAt .down ref)
  | none => none

/-- A code of the suppress list (R31); 0 is an unused place of the list (R191). -/
def Params.suppresses (p : Params) (code : Nat) : Bool :=
  decide (code ≠ 0) && [p.suppress1, p.suppress2, p.suppress3, p.suppress4].any (· == (code : Int))

/-- The monitor of a car arms (R31). -/
def armMarker (s : State) : State :=
  if s.isCar && s.inState .moving then
    s.onMarker fun m =>
      { m with
        armed := true
        awaiting := s.pos.quality == .unknown
        expected := if s.pos.quality = .unknown then none else s.nextExpected s.pos.x
        faults := 0
        faultBlock := none }
  else s

/-- The choice that waited for a quality is made (R31). -/
def chooseAwaited (s : State) : State :=
  if s.marker.armed && s.marker.awaiting then
    s.onMarker fun m => { m with awaiting := false, expected := s.nextExpected s.pos.x }
  else s

/-! ### Results -/

/-- A match at an expectation, with own x at the arrival (R34). -/
def markerMatch (e : Expected) (x : Int) (s : State) : State :=
  let s := s.onMarker fun m => { m with drift := e.boundary - x }
  let s := if magnitude (e.boundary - x) > s.params.tolWarn then unproveBlock e.block .ownMark s.ownSlot s else s
  let s := handEstimate (snap e.boundary .confirmed s)
  s.onMarker fun m =>
    { m with faults := 0, lastMatched := some e.block, faultBlock := none, expected := s.nextExpected e.boundary }

/-- A mismatch or a miss with its event kind and value; the second in a row asks for the MARK trip (R35 to R37). The proving
conditions are checked at each marker result (R9). -/
def markerFault (kind : EventKind) (value : Int) (e : Expected) (s : State) : State :=
  let s := checkTraversal (unproveBlock e.block .ownMark s.ownSlot s)
  let s := pushEvent kind s.ownSlot (some e.block) value s
  let s := s.onMarker fun m =>
    { m with faults := m.faults + 1, faultBlock := some e.block, expected := s.nextExpected e.boundary }
  if 2 ≤ s.marker.faults then latchTrip .mark s else s

/-- An arrival with own x at that moment (R33). -/
def takeMarker (code : Nat) (x : Int) (s : State) : State :=
  match s.marker.armed, s.marker.expected with
  | true, some e =>
    if code = 0 then s
    else if code = e.code then recompute (reevaluateIfChanged s (markerMatch e x s))
    else if s.params.suppresses code then s
    else markerFault .markMismatch code e s
  | _, _ => s

/-- How far own x has passed the expected boundary, when that is a miss (R36). -/
def State.missed (s : State) : Option (Expected × Int) :=
  match s.marker.armed, s.marker.expected, s.runDir with
  | true, some e, some d =>
    let past := d.sgn * (s.pos.x - e.boundary)
    if past > s.params.markWindow then some (e, past) else none
  | _, _, _ => none

/-- The miss test at a sample, made again against each new expectation until the second fault (R36, R37). -/
def missTest : Nat → State → State
  | 0, s => s
  | n + 1, s =>
    match s.missed with
    | some (e, past) =>
      let s := markerFault .markMissed past e s
      if 2 ≤ s.marker.faults then s else missTest n s
    | none => s

end Sys2Proof.Machine
end

