-- ==== Sys2Proof/Machine/Legs.lean ====
section
/-! DEFINITION. The run controller's transitions: opening, commitment, legs, stops, holds, aborts, closes and rejoin
(chapters 5, 6 and 8). -/

namespace Sys2Proof.Machine

/-! ### The stop list (R81, R82) -/

def StopKind.allowance (p : Params) : StopKind → Int
  | .loop => p.allowLoop
  | .halt => p.allowHalt
  | .terminal => p.allowTerminal

def stopEntry (p : Params) (pos : Int) (kind : StopKind) (status : EntryStatus) : StopEntry :=
  ⟨pos, kind, kind.allowance p, status⟩

/-- A position lies within 2W of an entry of the list (R81). -/
def merges (p : Params) (stops : List StopEntry) (pos : Int) : Bool :=
  stops.any fun e => decide (magnitude (e.pos - pos) ≤ 2 * p.W)

/-- The entry placed between its neighbours in the run direction (R81). -/
def placeOrdered (d : Int) (e : StopEntry) : List StopEntry → List StopEntry
  | [] => [e]
  | g :: rest => if 0 < d * (g.pos - e.pos) then e :: g :: rest else g :: placeOrdered d e rest

/-- A position lies before the TERMINAL: no entry is placed at or beyond it (R81). -/
def State.beforeTerminal (s : State) (pos : Int) : Bool := decide (0 < s.dirSgn * (s.terminal - pos))

/-- The insertion step of R81. -/
def insertStop (e : StopEntry) (s : State) : State :=
  s.onRecord fun r =>
    if merges s.params r.stops e.pos || decide (8 ≤ r.stops.length) || !s.beforeTerminal e.pos then r
    else { r with stops := placeOrdered s.dirSgn e r.stops }

/-- A full list makes room for an entry at a target taken from the drive: of the entries before the TERMINAL, the earliest REACHED
one is removed, or the first PENDING one (R81). -/
def makeRoom (stops : List StopEntry) : List StopEntry :=
  if stops.length < 8 then stops
  else
    let earlier := stops.dropLast
    let status : EntryStatus := if earlier.any fun e => e.status == .reached then .reached else .pending
    earlier.eraseP (fun e => e.status == status) ++ stops.getLast?.toList

/-- An entry at a target taken from the drive, where no entry lies within 2W of it (R81, R99, R114). DESIGN CHOICE (log 40): none is
placed for a target at or beyond the TERMINAL, where R81 has none; the station then supervises toward the target itself. -/
def placeDriven (target : Int) (s : State) : State :=
  let kind : StopKind := if s.isKind .service && target == s.params.pLoop then .loop else .halt
  s.onRecord fun r =>
    if merges s.params r.stops target || !s.beforeTerminal target then r
    else { r with stops := placeOrdered s.dirSgn (stopEntry s.params target kind .pending) (makeRoom r.stops) }

/-- The first PENDING entry stands at a position. -/
def State.stopsAt (s : State) (target : Int) : Bool := s.firstPending.any fun e => e.pos == target

/-- The PENDING entries strictly before the drive's target in the run direction are marked REACHED (R99). -/
def markPassed (target : Int) (s : State) : State :=
  s.onRecord fun r =>
    { r with stops := r.stops.map fun e =>
        if e.status = .pending ∧ 0 < s.dirSgn * (target - e.pos) then { e with status := .reached } else e }

/-- The target of a leg taken from the drive (R99): where it is not the first PENDING entry's position, the list is repaired, and
where it then still has no PENDING entry at the target, the station supervises toward the target itself. -/
def followTarget (target : Int) (s : State) : State :=
  let s := s.onRecord fun r => { r with driven := none }
  if s.stopsAt target then s
  else
    let s := placeDriven target (markPassed target s)
    if s.stopsAt target then s else s.onRecord fun r => { r with driven := some target }

def State.hasLoopEntry (s : State) : Bool := s.run.run.stops.any fun e => e.kind == .loop

def loopEntry (p : Params) (status : EntryStatus) : StopEntry := stopEntry p p.pLoop .loop status

/-- The position RUN_GO carries: the first PENDING entry's (R98, R114, R155). -/
def State.legTarget (s : State) : Int := (s.firstPending.map (·.pos)).getD s.terminal

/-- The block containing the stop target of the current leg (R125). DESIGN CHOICE (log 42): at a follower that ends its leg from
STOPPING it is the leg's own current stop (R106), not a nearer hold target (R152). -/
def State.stopBlock (s : State) : Option Nat := s.currentStop.bind fun c => s.eventBlock c.1

/-- The block containing x_sup, none in NO_POSITION (R160). -/
def State.supBlock (s : State) : Option Nat := if s.noPosition then none else s.eventBlock s.xSup

def State.originSlot (s : State) : Slot := (s.runId.map (·.origin)).getD s.ownSlot

/-! ### The dispatch window (R86, R89, R90) -/

def restartDispatch (s : State) : State :=
  s.onRecord fun r => { r with dispatchTimer := startTimer s.params.tDisp }

/-- The value of RUN_OPENED (R105). -/
def openedValue (kind : RunKind) (dir : Dir) (loopStop : Bool) : Int :=
  (kind.code + (if dir = .down then 4 else 0) + 8 * flagNat loopStop : Nat)

/-- A station in IDLE takes a RUN_OPEN (R86), and the estimate is recomputed for the run direction gained (R74). The consent view
stands (log 38). -/
def enterDispatch (id : RunId) (kind : RunKind) (dir : Dir) (loopStop : Bool) (s : State) : State :=
  let ahead := s.loopAhead dir
  let s := s.onRun fun r =>
    { r with
      state := .dispatch
      run := { RunRecord.empty with
        hdr := some ⟨id, kind, dir⟩
        consents := r.run.consents
        decision := if kind = .service then .undecided else .notApplicable } }
  let s := s.onRecord fun r => { r with stops := [stopEntry s.params s.terminal .terminal .pending] }
  let s := if loopStop && ahead then insertStop (loopEntry s.params .pending) s else s
  recompute (runStateEntered (pushEvent .runOpened id.origin none (openedValue kind dir loopStop) (restartDispatch s)))

/-- The window closes: AWAIT_GO with the consent timer or the go-guard timer (R89, R90, R103). -/
def closeWindow (s : State) : State :=
  let p := s.params
  runStateEntered <| s.onRun fun r =>
    { r with
      state := .awaitGo
      run := { r.run with
        dispatchTimer := none
        consentTimer := if s.isDrive then startTimer p.tConsent else none
        goGuardTimer := if s.isDrive then none else startTimer (p.tConsent + p.tLost) } }

/-! ### Entries to MOVING -/

/-- The DOOR trip of a car that enters MOVING or STOPPING with its door-closed input inactive (R170). -/
def doorTest (s : State) : State := if s.isCar && s.inMotion && !s.pins.doorClosed then latchTrip .door s else s

/-- A leg begins: the berthing target, its frozen state and the misaligned flag are set anew (R119, R121, R126). DESIGN CHOICE (log
48): its LOOP_MISALIGNED is queued before the RUN_COMMITTED or LOOP_DECIDED of the same moment. -/
def beginTargets (s : State) : State :=
  let s := s.onRecord fun r => { r with berth := none, berthFrozen := false, misaligned := false }
  if s.loopLeg then refreshBerth s else s

/-- A leg goes on after a stop: a loop leg that has no berthing target yet forms it. -/
def continueTargets (s : State) : State :=
  if s.loopLeg && s.run.run.berth.isNone then refreshBerth s else s

/-- The loop decision set at commitment (R98). -/
def State.committedDecision (s : State) : Decision :=
  if s.isKind .inspection || !(s.runDir.any s.loopAhead) then .notApplicable
  else if s.hasLoopEntry then .stop else s.run.run.decision

/-- MOVING with the timers of the waiting states stopped. -/
def startMoving (s : State) : State :=
  s.onRun fun r =>
    { r with
      state := .moving
      run := { r.run with dispatchTimer := none, consentTimer := none, goGuardTimer := none, holdTarget := none } }

/-! ### Stopping (R150 to R154) -/

/-- The far edge in a direction of the NO_HALT zone containing a block (R5). -/
def State.farEdge (s : State) (d : Dir) (k : Nat) : Int :=
  match d with
  | .up => (((List.range s.blocks.length).find? fun j => decide (k < j) && !(s.block j).noHalt).map s.startOf).getD
      s.params.L
  | .down => (((List.range k).reverse.find? fun j => !(s.block j).noHalt).map s.endOf).getD 0

/-- The steps of R151 from a planned stop point. -/
def State.holdPoint (s : State) (d : Dir) (stop : Int) : Nat → Int → Int
  | 0, x => x
  | n + 1, x =>
    if (s.block (s.blockOf x)).noHalt then
      let p := s.farEdge d (s.blockOf x) + d.sgn * s.params.wClear
      if d.sgn * stop < d.sgn * p then stop else s.holdPoint d stop n p
    else x

/-- The planning deceleration of R109 toward a position from a base position. -/
def State.planning (s : State) (base target : Int) : Int :=
  max 1 (min s.params.aPlan (floorDiv (s.lowestGuaranteed (s.blockOf base) (s.blockOf target)) 2))

/-- Base position, base speed and planning deceleration of R151. At a DRIVE whose run has had no computation of R109 the
deceleration is a free value within the bounds R109 sets (log 8). -/
def State.holdBase (s : State) (stop : Int) : Int × Int × Int :=
  if s.isDrive then
    (s.pos.x, magnitude s.pos.v,
      match s.ref.shown with
      | some c => c.aPl
      | none => max 1 (min s.params.aPlan (Config.unstatedPlanning s.freeUses)))
  else (s.xSup, magnitude s.vSup, s.planning s.xSup stop)

/-- x_s of R151. -/
def State.plannedStop (s : State) (d : Dir) (stop : Int) : Int :=
  let b := s.holdBase stop
  b.1 + d.sgn * (ceilDiv (b.2.1 ^ 2) (2 * b.2.2) + s.params.sCreep)

/-- The hold target of R151, none in NO_POSITION. -/
def State.formHoldTarget (s : State) : Option Int :=
  match s.noPosition, s.runDir, s.currentStop with
  | false, some d, some (stop, _) => some (s.holdPoint d stop (s.blocks.length + 1) (s.plannedStop d stop))
  | _, _, _ => none

/-- The free value of R151 counts as used when it was taken. -/
def State.usesFreePlanning (s : State) : Bool := s.isDrive && s.ref.shown.isNone

/-- The entry to STOPPING from MOVING (R150, R151, R158), with the DOOR test before the evaluation. -/
def enterStopping (s : State) : State :=
  let target := s.formHoldTarget
  let s := if s.usesFreePlanning then { s with freeUses := s.freeUses + 1 } else s
  runStateEntered (doorTest (announce ((s.onRecord fun r => { r with holdTarget := target }).setRunState .stopping)))

/-- A station in MOVING with a slot in its hold set or an abort pending enters STOPPING, at the moment the set changes and at each
entry to MOVING (R150, R158). -/
def stopIfHeld (s : State) : State :=
  if s.inState .moving && !(s.holdsEmpty && !s.run.run.abortPending) then enterStopping s else s

/-- The entry to HELD (R154, R146, R160). -/
def enterHeld (s : State) : State :=
  let s := announce ((s.onRecord fun r => { r with holdTarget := none }).setRunState .held)
  runStateEntered (completeIf .hold .done (pushEvent .held s.ownSlot s.supBlock (maskOf s.holdsSlot : Int) s))

/-! ### Legs that begin and go on -/

/-- The first entry to MOVING of a run or a rejoin: monitor armed, traversal opened near the boundary behind (R31, R8). -/
def firstEntry (s : State) : State := doorTest (openAtEntry (armMarker s))

/-- The entry to MOVING on leg 0 with the frame's or the drive's own target (R98, R99, R104, R105). -/
def enterLegZero (target : Int) (s : State) : State :=
  let s := s.onRecord fun r => { r with leg := 0, decision := s.committedDecision }
  let s := pushEvent .runCommitted s.originSlot (s.eventBlock target) (s.stopCount : Int) (beginTargets (startMoving s))
  stopIfHeld (runStateEntered (firstEntry (completeIf .requestRun .done s)))

/-- The DRIVE commits (R98). -/
def commit (s : State) : State := enterLegZero s.legTarget (originateRun (fun id => .runGo id 0 s.legTarget) s)

/-- What told a station the drive's start of a leg or its resume; the other sign of it, taken next, is ignored (R99, R114, R155). -/
def startedBy (sign : StartSign) (s : State) : State := s.onRecord fun r => { r with startedBy := some sign }

/-- The other sign of a start was taken and ignored: the next sign tells of a new start. -/
def signTaken (s : State) : State := s.onRecord fun r => { r with startedBy := none }

/-- Another station takes leg 0 from RUN_GO or the drive's STATUS (R99). DESIGN CHOICE (log 39): the list is repaired to the target
before the loop decision and RUN_COMMITTED's stop count are formed from it. -/
def followLegZero (sign : StartSign) (target : Int) (s : State) : State :=
  enterLegZero target (followTarget target (startedBy sign s))

/-- RUN_COMMITTED of a later leg (R125). -/
def pushCommitted (s : State) : State :=
  pushEvent .runCommitted s.originSlot s.stopBlock ((s.run.run.leg * 256 + s.stopCount : Nat) : Int) s

/-- The entry to MOVING on the next leg (R114); a station that joined in DWELL makes its rejoin entry (R123). -/
def enterNextLeg (s : State) : State :=
  let joined := s.run.run.joinedInDwell
  let s := pushCommitted (beginTargets (startMoving (s.onRecord fun r => { r with joinedInDwell := false })))
  stopIfHeld (runStateEntered (if joined then firstEntry s else doorTest s))

def nextLegDrive (s : State) : State :=
  let s := s.onRecord fun r => { r with leg := r.leg + 1 }
  enterNextLeg (originateRun (fun id => .runGo id s.run.run.leg s.legTarget) s)

def nextLegFollow (sign : StartSign) (target : Int) (s : State) : State :=
  enterNextLeg (followTarget target (startedBy sign (s.onRecord fun r => { r with leg := r.leg + 1 })))

/-- RESUMED with its value, and MOVING (R153, R155). -/
def enterResumed (value : Int) (s : State) : State :=
  let s := continueTargets (startMoving s)
  stopIfHeld (runStateEntered (doorTest (pushEvent .resumed s.ownSlot s.supBlock value s)))

def resumeDrive (s : State) : State :=
  enterResumed 2 (originateRun (fun id => .runGo id s.run.run.leg s.legTarget) s)

def resumeFollow (sign : StartSign) (target : Int) (s : State) : State :=
  enterResumed 2 (followTarget target (startedBy sign s))

/-- STOPPING for a hold returns to MOVING (R153). -/
def returnToMoving (s : State) : State := enterResumed 1 s

/-! ### The end of a leg (R112, R113) -/

/-- Mark the first PENDING entry REACHED. -/
def markReached : List StopEntry → List StopEntry
  | [] => []
  | e :: rest => if e.status = .pending then { e with status := .reached } :: rest else e :: markReached rest

/-- The end of a leg in a state: entry REACHED, ready latch clear, LEG_REACHED; ARRIVED disarms the monitor and abandons a
traversal (R112, R113, R96, R31, R10). The targets of the leg are ended (log 22); the misaligned flag stands until the next leg
starts (R121). DESIGN CHOICE (log 56): with no PENDING entry the value of LEG_REACHED is 0, which R125's table does not list. -/
def endLeg (st : RunState) (s : State) : State :=
  let kind := ((s.firstPending.map fun e => e.kind.code).getD 0 : Nat)
  let s := pushEvent .legReached s.ownSlot s.stopBlock (kind : Int) s
  let s := (s.onRecord fun r =>
    { r with stops := markReached r.stops, holdTarget := none, driven := none, berth := none,
             berthFrozen := false }).setRunState st
  let s := runStateEntered (s.onCar fun c => { c with ready := false })
  if st = .arrived then (s.onMarker Marker.disarm).onProfile fun p => { p with traversal := none } else s

/-- The state the DRIVE enters at its leg's end (R112). -/
def State.legEndState (s : State) : RunState :=
  if s.firstPending.any fun e => e.kind == .terminal then .arrived else .dwell

/-! ### Closes by the DRIVE (R101, R115, R158, R159) -/

/-- The DRIVE originates RUN_CLOSE and closes its run. -/
def closeByDrive (cause : CloseCause) (s : State) : State :=
  endRun cause s.ownSlot (originateRun (fun id => .runClose id cause) s)

/-! ### The tests of the run state -/

/-- The transitions a station makes on its own state (R90, R98, R114, R115, R150, R153 to R155, R158). -/
def runTests (s : State) : State :=
  if s.tripAsserted then s
  else match s.run.state with
  | .dispatch => if s.holdsEmpty then s else closeWindow s
  | .awaitGo => if s.isDrive && s.commitReady then commit s else s
  | .moving => stopIfHeld s
  | .stopping =>
    if s.run.run.abortPending then (if s.isDrive && s.pos.standstill then closeByDrive .aborted s else s)
    else if s.holdsEmpty then returnToMoving s
    else if s.lineStandstill then enterHeld s else s
  | .held => if s.isDrive && s.resumeReady then resumeDrive s else s
  | .dwell => if s.isDrive && s.commitReady then nextLegDrive s else s
  | .arrived =>
    if s.isDrive && decide (magnitude (s.terminal - s.pos.x) ≤ s.params.W) then closeByDrive .arrived s else s
  | .idle | .tripped => s

/-! ### Holds (R144, R145) -/

/-- The HOLD or RELEASE frame that a change of the own hold flag calls for (R145). -/
def sendHoldFlag (was : Bool) (s : State) : State :=
  if !was && s.holdFlag then originateRun .hold s
  else if was && !s.holdFlag then originateRun .release s else s

/-- The hold set changes, with its frame, and the station acts on the set at that moment (R145, R150). -/
def changeHolds (f : Vector (Option Bool) 8 → Vector (Option Bool) 8) (s : State) : State :=
  runTests (sendHoldFlag s.holdFlag (s.onRecord fun r => { r with holds := f r.holds }))

/-- A slot may be brought into the hold set (R144). -/
def State.takesHolds (s : State) : Bool :=
  s.inState .dispatch || s.inState .awaitGo || s.inState .moving || s.inState .stopping || s.inState .held
  || s.inState .dwell

/-- A slot enters the hold set; its mark is set if the entry is implicit and an old mark, if any, was set (R144). -/
def enterHold (i : Slot) (implicit : Bool) (s : State) : State :=
  if s.takesHolds then changeHolds (fun h => setAt h i (some (implicit && (h.get i).getD true))) s else s

def removeHold (i : Slot) (s : State) : State := changeHolds (fun h => setAt h i none) s

/-! ### Aborts (R157 to R159) -/

/-- A station acts on an ABORT for its run at once: the close, the entry to STOPPING, or the close at rest (R158, R159). -/
def takeAbort (s : State) : State :=
  if s.isDrive && !s.inMotion then closeByDrive .aborted s
  else runTests (s.onRecord fun r => { r with abortPending := true })

/-! ### Rejoin (R122, R123) -/

/-- The stop list of a station that rejoins (R123); an entry at or beyond the TERMINAL is not placed (R81, log 40). -/
def State.rejoinStops (s : State) (kind : RunKind) (target : Int) (status : EntryStatus) : List StopEntry :=
  let e := if kind = .service then loopEntry s.params status else stopEntry s.params target .halt status
  let last := stopEntry s.params s.terminal .terminal .pending
  if magnitude (target - s.terminal) ≤ s.params.W ∨ s.beforeTerminal e.pos = false then [last] else [e, last]

/-- The run record built from the drive's STATUS (R123). -/
def rejoinRecord (id : RunId) (st : Status) (leg : Nat) : RunRecord :=
  { RunRecord.empty with
    hdr := some ⟨id, st.kind, st.dir⟩
    leg := leg
    decision := st.decision
    rejoined := true
    adopted := some st.stopCount }

/-- A station joins a run in MOVING or in DWELL (R123). DESIGN CHOICE (log 51): where its recomputation asks for RECON and its door is
open, RECON is asked for before DOOR. -/
def rejoin (id : RunId) (st : Status) (leg : Nat) (target : Int) (state : RunState) (s : State) : State :=
  let s := s.onRun fun r =>
    { r with state := state, run := { rejoinRecord id st leg with joinedInDwell := state == .dwell } }
  let status : EntryStatus := if state = .dwell then .reached else .pending
  let s := s.onRecord fun r => { r with stops := s.rejoinStops st.kind target status }
  let s := if state = .moving then beginTargets s else s
  let block := if state = .moving then s.stopBlock else s.eventBlock target
  let s := recompute (pushEvent .runCommitted s.originSlot block ((leg * 256 : Nat) : Int) s)
  if s.inState .moving then stopIfHeld (runStateEntered (firstEntry s)) else runStateEntered s

/-- A station may rejoin a run (R122, R99). -/
def State.mayRejoin (s : State) : Bool :=
  s.inState .idle && !s.isDrive && s.role.isSome && !s.configFault && !s.listening && !s.tripAsserted

/-- Rejoin on what the PRESENT drive record shows (R122). -/
def rejoinOnStatus (st : Status) (s : State) : State :=
  match s.mayRejoin, st.runId with
  | true, some id =>
    if st.runState = .moving ∨ st.runState = .stopping then
      rejoin id st st.leg st.target .moving s
    else if st.runState = .dwell ∧ s.lineStandstill = true then rejoin id st st.leg st.target .dwell s
    else s
  | _, _ => s

/-- Rejoin on a RUN_GO whose run the PRESENT drive record shows (R122). -/
def rejoinOnGo (id : RunId) (leg : Nat) (target : Int) (s : State) : State :=
  match s.driveRecord with
  | some (_, st) => if s.mayRejoin ∧ st.runId = some id then rejoin id st leg target .moving s else s
  | none => s

/-! ### Following the drive (R99, R100, R113 to R115, R118) -/

/-- Adoption of the drive's decision (R118). -/
def adoptDecision (st : Status) (slot : Slot) (s : State) : State :=
  if s.run.run.decision = .undecided ∧ (st.decision = .stop ∨ st.decision = .pass) ∧ st.runId = s.runId
      ∧ (s.inMotion || s.inState .held || s.inState .dwell) = true then
    let was := s.loopLeg
    let s := s.onRecord fun r => { r with decision := st.decision, designator := false }
    let s := if st.decision = .stop ∧ s.hasLoopEntry = false then insertStop (loopEntry s.params .pending) s else s
    let s := if s.loopLeg && !was && !s.inState .dwell then beginTargets (s.onRecord fun r => { r with driven := none }) else s
    let s := pushEvent .loopDecided slot (s.eventBlock s.params.pLoop) (st.decision.code : Int) s
    completeIf .callLoop (if st.decision = .stop then .done else .tooLate) s
  else s

/-- A station in MOVING, STOPPING or HELD follows the drive to the end of the leg (R113). DESIGN CHOICE (log 55): one in STOPPING for which
R154 holds at the same moment goes straight to the leg's end where this test comes first, with no HELD. -/
def followLegEnd (st : Status) (s : State) : State :=
  if (s.inMotion || s.inState .held) = true ∧ st.runId = s.runId ∧ st.leg = s.run.run.leg
      ∧ (st.runState = .dwell ∨ st.runState = .arrived) ∧ s.lineStandstill = true
  then endLeg st.runState s else s

/-- A station that lost the close of its run closes it at line standstill (R115). -/
def lostClose (st : Status) (s : State) : State :=
  if (s.inMotion || s.inState .held || s.inState .dwell || s.inState .arrived) = true
      ∧ (st.runState = .idle ∨ st.runId ≠ s.runId) ∧ s.lineStandstill = true
  then endRun (if s.inState .arrived then .arrived else .noDrive) s.ownSlot s else s

/-- The drive's STATUS starts a leg or a resume, or shows that no run is held (R99, R100, R114, R155). -/
def followStart (st : Status) (s : State) : State :=
  let same := decide (st.runId = s.runId) && st.runState == .moving && !s.tripAsserted
  match s.run.state with
  | .dispatch => if same && st.leg == 0 then followLegZero .status st.target s else s
  | .awaitGo =>
    if same && st.leg == 0 then followLegZero .status st.target s
    else if st.runState = .idle then endRun .noDrive s.ownSlot s else s
  | .dwell => if same && st.leg == s.run.run.leg + 1 then nextLegFollow .status st.target s else s
  | .held =>
    if same && st.leg == s.run.run.leg then
      (if s.run.run.startedBy = some .runGo then signTaken s else resumeFollow .status st.target s)
    else s
  | .moving | .stopping =>
    if same && st.leg == s.run.run.leg && s.run.run.startedBy == some .runGo then signTaken s else s
  | .idle | .arrived | .tripped => s

/-- The adopted stop count follows the drive's latest STATUS (R123). -/
def followCount (st : Status) (s : State) : State :=
  if s.run.run.rejoined = true ∧ st.runId = s.runId then s.onRecord fun r => { r with adopted := some st.stopCount } else s

/-- After a STATUS of the run that shows the drive out of MOVING, the next RUN_GO or MOVING tells of a new start (R155, log 32). -/
def followDriveStop (st : Status) (s : State) : State :=
  if st.runId = s.runId ∧ st.runState ≠ .moving then signTaken s else s

/-- What a non-DRIVE station makes of the run view of the PRESENT drive record's STATUS (R67). DESIGN CHOICE (log 43): the drive's
decision is looked at before its start of a leg, so a STATUS that brings both has its decision adopted at the next STATUS. DESIGN
CHOICE (log 49): a STATUS of another run that closes the station's run (R115) brings no rejoin of that run (R122); the next one does. -/
def takeDriveView (st : Status) (slot : Slot) (s : State) : State :=
  if s.inState .idle then rejoinOnStatus st s
  else
    let s := followDriveStop st (followCount st s)
    lostClose st (followLegEnd st (followStart st (reevaluateIfChanged s (adoptDecision st slot s))))

/-- The tests a non-DRIVE station makes again when its line standstill begins (R113, R115, R122). DESIGN CHOICE (log 55): they come before
the entry to HELD of R154. -/
def standTests (s : State) : State :=
  match s.driveRecord with
  | some (_, st) =>
    if s.inState .idle then (if st.runState = .dwell then rejoinOnStatus st s else s) else lostClose st (followLegEnd st s)
  | none => s

/-! ### The end of TRIPPED (R172) -/

/-- TRIPPED ends when the latch is clear and the origin set empty: IDLE without the kept run, the estimate recomputed where a
direction is lost (R74), and a rejoin where the drive shows a run in motion (log 16). The consent view stands (log 38). -/
def exitTripped (s : State) : State :=
  if s.inState .tripped && !s.tripAsserted then
    let directed := s.runDir.isSome
    let s := runStateEntered (s.onRun fun r =>
      { r with state := .idle, run := { RunRecord.empty with consents := r.run.consents } })
    let s := if directed then recompute s else s
    match s.driveRecord with
    | some (_, st) => rejoinOnStatus st s
    | none => s
  else s

end Sys2Proof.Machine
end

