-- ==== Sys2Proof/Machine/Reference.lean ====
section
/-! DEFINITION. The DRIVE's speed reference, loop decision and end of leg (R107 to R112, R117). -/

namespace Sys2Proof.Machine

/-! ### The speed reference -/

/-- v_brk of R109. DESIGN CHOICE (log 41): where an image has W above s_creep, so that two rows of the table apply, the first row is
taken. -/
def Params.brakingSpeed (p : Params) (remaining aPl : Int) : Int :=
  if remaining > p.sCreep then isqrt (p.vCreep ^ 2 + 2 * aPl * (remaining - p.sCreep))
  else if remaining > p.W then p.vCreep else 0

/-- The allowed speeds of the boundaries ahead and short of the stop target (R110). -/
def State.allowedSpeeds (s : State) (d : Dir) (remaining aPl : Int) : List Int :=
  (s.boundaries d).filterMap fun b =>
    let dist := d.sgn * (b.1 - s.pos.x)
    if 0 < dist ∧ dist < remaining then some (isqrt (s.driveLimit b.2.2 ^ 2 + 2 * aPl * dist)) else none

/-- The drive limit of the block containing x_D (R19). -/
def State.driveLimitHere (s : State) : Int := s.driveLimit (s.blockOf s.pos.x)

/-- v_target of R110, with the cap of STOPPING (R152). -/
def State.targetSpeed (s : State) (d : Dir) (remaining aPl : Int) : Int :=
  let p := s.params
  let least := listMin ([s.driveLimitHere, p.brakingSpeed remaining aPl, p.vMax] ++ s.allowedSpeeds d remaining aPl)
  let advised := if s.combinedDemand = .advise then min least (max (magnitude s.pos.v) p.vCreep) else least
  if s.inState .stopping then min advised (magnitude s.ref.vref) else advised

/-- One computation (R109, R110). -/
def State.computeReference (s : State) (d : Dir) (target : Int) : RefCalc :=
  let remaining := d.sgn * (target - s.pos.x)
  let aPl := s.planning s.pos.x target
  ⟨target, remaining, aPl, s.targetSpeed d remaining aPl⟩

/-- The bounded step of the magnitude (R111). -/
def Params.rampStep (p : Params) (aPl vTarget current : Int) : Int :=
  if current < vTarget then min vTarget (current + max 1 (floorDiv (p.aAcc * p.tSamp) 1000))
  else max vTarget (current - ceilDiv (aPl * p.tSamp) 1000)

/-- The speed reference takes the new x_D (R107, R109 to R111). The bounded step starts from v_ref as it stands, which is 0 where an
evaluation of this sample has found a demand of SERVICE (R107; log 57). -/
def updateReference (s : State) : State :=
  match s.inMotion, s.runDir, s.stopInUse with
  | true, some d, some (target, _) =>
    let c := s.computeReference d target
    let m := min s.driveLimitHere (s.params.rampStep c.aPl c.vTarget (magnitude s.ref.vref))
    s.onRef fun _ => ⟨if s.tripAsserted || s.braking then 0 else d.sgn * m, some c⟩
  | _, _, _ => s

/-- v_ref between samples: 0 where it is barred, and else at most the drive limit of x_D's block in magnitude (R107). DESIGN CHOICE
(log 64): the reduction to the drive limit is made at a snap and at the end of the event. -/
def adjustReference (s : State) : State :=
  if s.isDrive && !s.referenceBarred then
    s.onRef fun r => { r with vref := clampTo (-s.driveLimitHere) s.driveLimitHere r.vref }
  else stopReference s

/-! ### The loop decision (R117) -/

/-- a_pl as the latest computation of R109 left it; formed by R109 at this sample where the run has had none (log 8). -/
def State.decisionPlanning (s : State) : Int :=
  match s.ref.shown with
  | some c => c.aPl
  | none => s.planning s.pos.x ((s.stopInUse.map (·.1)).getD s.pos.x)

def State.loopDistance (s : State) : Int := s.dirSgn * (s.params.pLoop - s.pos.x)

/-- The decision distance (R117). -/
def State.decisionDistance (s : State) : Int :=
  ceilDiv (s.pos.v ^ 2) (2 * s.decisionPlanning) + s.params.sCreep + s.params.mDec

/-- The decision is due at this sample (R117). -/
def State.decisionDue (s : State) : Bool :=
  (s.inMotion || s.inState .held) && s.run.run.decision == .undecided && decide (s.loopDistance ≤ s.decisionDistance)

/-- The test of the designator at the decision point (R117). -/
def decideLoop (s : State) : State :=
  if s.decisionDue then
    let stop := s.run.run.designator && decide (s.loopDistance > s.params.W)
    let was := s.loopLeg
    let s := s.onRecord fun r => { r with designator := false, decision := if stop then .stop else .pass }
    let s := if stop then insertStop (loopEntry s.params .pending) s else s
    let s := if s.loopLeg && !was then beginTargets s else s
    let s := pushEvent .loopDecided s.ownSlot (s.eventBlock s.params.pLoop) (if stop then 1 else 2) s
    completeIf .callLoop (if stop then .done else .tooLate) s
  else s

/-! ### The end of a leg at the DRIVE (R112) -/

/-- The stop of the current leg is reached (R112). -/
def State.stopReached (s : State) : Bool :=
  s.inState .moving && s.pos.standstill
  && s.stopInUse.any fun c => decide (s.dirSgn * (c.1 - s.pos.x) ≤ s.params.W)

def reachStop (s : State) : State := if s.stopReached then endLeg s.legEndState s else s

/-- The DRIVE's part of a sample: decision, reference, end of leg. -/
def driveSample (s : State) : State := reachStop (updateReference (reevaluateIfChanged s (decideLoop s)))

end Sys2Proof.Machine
end

