-- ==== Sys2Proof/Machine/React.lean ====
section
/-! DEFINITION. What follows every event: evaluation, speed reference, parking, STATUS at once, the tests of the run state,
and the outputs. -/

namespace Sys2Proof.Machine

/-- Everything kept current between changes of the run state: the envelope (R127), v_ref (R107), parking (R165) and the STATUS
of each change of R69. The parts of an event have had their evaluations before, each with its own change of v_ref (`reevaluate`,
`reevaluateIfChanged`, log 57); this one covers the last of them, and changes nothing where nothing is left to take (log 31). -/
def housekeep (s : State) : State := announce (formParking (adjustReference (evaluate s)))

/-! ### The run state comes to rest -/

/-- Housekeeping and run state tests until the run state rests, at most `n` times. DESIGN CHOICE (log 59): the tests are made after every
event, at the moments the rules name and at all others. -/
def settleRun : Nat → State → State
  | 0, s => housekeep s
  | n + 1, s =>
    let a := housekeep s
    let b := runTests a
    if b.run.state = a.run.state then a else settleRun n b

/-! ### Outputs -/

/-- A stage's check timer against its command and feedback (R162). -/
def State.checkStage (s : State) (st : Stage) : StageUnit :=
  let u := s.brakes.unit st
  if u.failed || s.stageCommand st == pinOfStage s.pins st then { u with timer := none }
  else { u with timer := some (u.timer.getD s.params.tStage.toNat) }

/-- The emergency brake's check timer and fault flag against its command and feedback (R167); after an expiry the timer waits
for agreement (log 20). -/
def State.checkEmergency (s : State) (b : Brakes) : Brakes :=
  if s.emergencyCommand == s.pins.brakeFeedback then { b with ebFault := false, ebTimer := none }
  else if b.ebFault then b
  else { b with ebTimer := some (b.ebTimer.getD s.params.tStage.toNat) }

/-- The feedback checks of the DRIVE's output stage. DESIGN CHOICE (log 53): a feedback that disagrees as start-up completes starts its
check timer at that moment, from the stopped timers of R176. -/
def checkBrakes (s : State) : State :=
  if s.isDrive then
    s.onBrakes fun b => s.checkEmergency
      { b with stage1 := s.checkStage .w1, stage2 := s.checkStage .w2, stage4 := s.checkStage .w4,
               stage8 := s.checkStage .w8 }
  else s

/-- The plant outputs of the role, the reference output and ATTN (R108, R161, R164, R167, R173, R187). A role's missing
outputs, and every plant output under an invalid role code, stay at the safe level (R193). -/
def State.roleOutputs (s : State) (o : Outputs) : Outputs :=
  let o := { o with attn := s.attnNow }
  match s.role with
  | some .drive =>
    { o with
      stage1 := s.stageCommand .w1
      stage2 := s.stageCommand .w2
      stage4 := s.stageCommand .w4
      stage8 := s.stageCommand .w8
      emergencyBrake := s.emergencyCommand
      speedWord := o.speedWord.map fun _ => signedField 16 s.ref.vref }
  | some .carA | some .carB => { o with trackBrake := s.trackBrakeScope }
  | some .loop | some .wayside => { o with safetyChain := s.tripAsserted }
  | none => o

/-- The door release is evaluated at a sample and at a change of line standstill, own quality or run state (R124); an entered run state
has evaluated it already (`runStateEntered`). -/
def doorDue (sample : Bool) (before s : State) : Bool :=
  sample || before.lineStandstill != s.lineStandstill || before.pos.quality != s.pos.quality
  || before.run.state != s.run.state

/-- The reference output begins with the DRIVE's first own sample (R108). -/
def startReferenceOutput (sample : Bool) (s : State) : State :=
  if sample && s.isDrive && !s.configFault then
    s.onOutputs fun o => { o with speedWord := some (o.speedWord.getD 0) }
  else s

def setOutputs (sample : Bool) (before s : State) : State :=
  let s := checkBrakes s
  let s := (startReferenceOutput sample s).onOutputs s.roleOutputs
  if doorDue sample before s then refreshDoor s else s

/-- The tests of a line standstill that has just begun, at a station other than the DRIVE. -/
def standIfBegun (before s : State) : State :=
  if !s.isDrive && s.lineStandstill && !before.lineStandstill then standTests s else s

/-- What follows an event: `before` is the state the event found. -/
def finishWith (sample : Bool) (before s : State) : State :=
  setOutputs sample before (settleRun 6 (standIfBegun before s))

/-- An event of the part in operation; in reset and during the image read the part takes none (R189, log 19). -/
def event (s : State) (f : State → State) : Host.Outcome State Fault Refusal :=
  .next (if s.phase = .running then finishWith false s (f s) else s)

/-- An event that changes nothing the reactions look at. -/
def quietEvent (s : State) (f : State → State) : Host.Outcome State Fault Refusal :=
  .next (if s.phase = .running then f s else s)

end Sys2Proof.Machine
end

