-- ==== Sys2Proof/Machine/Clock.lean ====
section
/-! DEFINITION. One millisecond passes while no command waits (log 1): the clock advances, every running timer counts down, and
the expiry command of each timer that runs out joins the part's own queue in one fixed order. -/

namespace Sys2Proof.Machine

def countDown (t : Timer) : Timer := t.map (· - 1)

/-- The command of a timer that runs out in this millisecond. -/
def expiry (t : Timer) (c : Instr) : List Instr := if t = some 1 then [c] else []

def tickLine (x : Line) : Line := { x with silence := countDown x.silence }
def tickPeer (r : PeerRecord) : PeerRecord :=
  { r with staleTimer := countDown r.staleTimer, lostTimer := countDown r.lostTimer }
def tickDetector (u : DetUnit) : DetUnit := { u with stuckTimer := countDown u.stuckTimer }
def tickStage (u : StageUnit) : StageUnit := { u with timer := countDown u.timer }
def tickRecord (r : RunRecord) : RunRecord :=
  { r with
    dispatchTimer := countDown r.dispatchTimer
    consentTimer := countDown r.consentTimer
    goGuardTimer := countDown r.goGuardTimer }

/-- The eight records, each after `f`. -/
def mapPeers (f : PeerRecord → PeerRecord) (v : Vector PeerRecord 8) : Vector PeerRecord 8 :=
  #v[f (v.get 0), f (v.get 1), f (v.get 2), f (v.get 3), f (v.get 4), f (v.get 5), f (v.get 6), f (v.get 7)]

/-- The expiry commands of this millisecond, in their fixed order. -/
def expiries (s : State) : List Instr :=
  expiry s.loader.listenTimer .listenPeriodExpiry
  ++ expiry s.line1.silence (.silenceTimerExpiry .line1) ++ expiry s.line2.silence (.silenceTimerExpiry .line2)
  ++ slots.flatMap (fun i => expiry (s.peers.get i).staleTimer (.staleTimerExpiry i))
  ++ slots.flatMap (fun i => expiry (s.peers.get i).lostTimer (.lostTimerExpiry i))
  ++ expiry s.peerCtl.statusTimer .statusTimerExpiry
  ++ expiry s.pos.sampleTimer (.sampleTimerExpiry s.pins.counter)
  ++ expiry s.pos.standTimer .standstillTimerExpiry
  ++ expiry s.peerCtl.recompTimer .recomputationTimerExpiry
  ++ expiry s.car.loadTimer .loadTimerExpiry
  ++ expiry s.det.daLow.stuckTimer (.stuckTimerExpiry .daLow) ++ expiry s.det.daHigh.stuckTimer (.stuckTimerExpiry .daHigh)
  ++ expiry s.det.dbLow.stuckTimer (.stuckTimerExpiry .dbLow) ++ expiry s.det.dbHigh.stuckTimer (.stuckTimerExpiry .dbHigh)
  ++ expiry s.run.run.dispatchTimer .dispatchTimerExpiry ++ expiry s.run.run.consentTimer .consentTimerExpiry
  ++ expiry s.run.run.goGuardTimer .goGuardTimerExpiry
  ++ expiry s.brakes.stage1.timer (.stageCheckTimerExpiry .w1) ++ expiry s.brakes.stage2.timer (.stageCheckTimerExpiry .w2)
  ++ expiry s.brakes.stage4.timer (.stageCheckTimerExpiry .w4) ++ expiry s.brakes.stage8.timer (.stageCheckTimerExpiry .w8)
  ++ expiry s.brakes.ebTimer .emergencyBrakeTimerExpiry

/-- Every timer one millisecond on; the request kept for a RESET_TRIP of the moment past is dropped (R174). -/
def countTimers (s : State) : State :=
  { s with
    loader := { s.loader with listenTimer := countDown s.loader.listenTimer }
    line1 := tickLine s.line1
    line2 := tickLine s.line2
    peers := mapPeers tickPeer s.peers
    peerCtl := { s.peerCtl with
      statusTimer := countDown s.peerCtl.statusTimer
      recompTimer := countDown s.peerCtl.recompTimer }
    pos := { s.pos with standTimer := countDown s.pos.standTimer, sampleTimer := countDown s.pos.sampleTimer }
    car := { s.car with loadTimer := countDown s.car.loadTimer }
    det := { s.det with
      daLow := tickDetector s.det.daLow
      daHigh := tickDetector s.det.daHigh
      dbLow := tickDetector s.det.dbLow
      dbHigh := tickDetector s.det.dbHigh }
    run := { s.run with run := tickRecord s.run.run }
    trips := { s.trips with kept := none }
    brakes := { s.brakes with
      stage1 := tickStage s.brakes.stage1
      stage2 := tickStage s.brakes.stage2
      stage4 := tickStage s.brakes.stage4
      stage8 := tickStage s.brakes.stage8
      ebTimer := countDown s.brakes.ebTimer } }

/-- One millisecond. In reset the clock stands (R189). -/
def tick (s : State) : State :=
  match s.phase with
  | .inReset => s
  | .loading | .running => { countTimers s with clock := s.clock + 1, pending := s.pending ++ expiries s }

end Sys2Proof.Machine
end

