-- ==== Sys2Proof/Machine/LineCoding.lean ====
section
/-! DEFINITION. The line coding (R42): the levels that carry a frame on a station line, and what a receiver makes of levels. A level is
`true` where the line is recessive; a frame's bits of value 1 are recessive and each byte goes out from its bit 7 (DEDUCED, log 58). -/

namespace Sys2Proof.Machine

/-- The level of a line on which each station leaves or drives a level: dominant as soon as one drives dominant (R42). -/
def lineLevel (driven : List Bool) : Bool := driven.all id

/-- The run of equal levels that a level joins or begins, after `run` levels equal to `last`. -/
def nextRun (last : Bool) (run : Nat) (b : Bool) : Nat := if b = last then run + 1 else 1

/-- One level of the other kind is inserted after every five consecutive equal levels; it begins the next run itself (R42; log 58). -/
def insertLevels : Bool → Nat → List Bool → List Bool
  | _, _, [] => []
  | last, run, b :: bs =>
    if nextRun last run b = 5 then b :: (!b) :: insertLevels (!b) 1 bs
    else b :: insertLevels b (nextRun last run b) bs

/-- The bits of a byte as they go out. -/
def byteBits (b : Byte) : List Bool := (List.range 8).map fun i => b.getLsbD (7 - i)

/-- The coded part of a frame: from the dominant start bit to the last bit of the check (R42). -/
def codedPart (bytes : List Byte) : List Bool := insertLevels true 0 (false :: bytes.flatMap byteBits)

/-- The end-of-frame delimiter (R42). -/
def delimiter : List Bool := List.replicate 7 true

/-- The levels of a frame (R42). -/
def frameLevels (bytes : List Byte) : List Bool := codedPart bytes ++ delimiter

/-- Whole bytes from bits, bit 7 first. -/
def bytesOfBits : List Bool → List Byte
  | b7 :: b6 :: b5 :: b4 :: b3 :: b2 :: b1 :: b0 :: rest =>
    byteOf ([b7, b6, b5, b4, b3, b2, b1, b0].foldl (fun acc b => 2 * acc + b.toNat) 0) :: bytesOfBits rest
  | _ => []

/-- Start bit, header, payload of the length field's length and check have all been read (R43, R195). -/
def frameRead (bits : List Bool) : Bool :=
  decide (33 ≤ bits.length) && decide (bits.length = 1 + 8 * ((byteAt (bytesOfBits bits.tail) 3).toNat % 64 + 6))

/-- The coded part as a receiver reads it, after `run` levels equal to `last` and the bits already read: the inserted levels go, and
six equal levels end the reading. It answers the bits read and, where the part is whole, the levels that follow it. -/
def readCoded : List Bool → Bool → Nat → List Bool → List Bool × Option (List Bool)
  | [], _, run, bits => (bits, if run ≠ 5 ∧ frameRead bits = true then some [] else none)
  | b :: bs, last, run, bits =>
    if run = 5 then (if b = last then (bits, none) else readCoded bs b 1 bits)
    else if frameRead bits then (bits, some (b :: bs))
    else readCoded bs b (nextRun last run b) (bits ++ [b])

/-- What a receiver makes of the levels from a start bit on: the bytes read, and whether the delimiter was received. Six equal levels in
the coded part, a dominant level in the delimiter and levels that end too soon leave the frame without its delimiter (R42). -/
def readLevels (levels : List Bool) : List Byte × Bool :=
  match levels with
  | false :: _ =>
    let r := readCoded levels true 0 []
    (bytesOfBits r.1.tail, r.2.any fun rest => rest.take 7 == delimiter)
  | _ => ([], false)

/-- The command that levels on a line bring, from a start bit on (R42, R51). -/
def arrivalOf (l : LineId) (levels : List Bool) : Instr := .frameArrival l (readLevels levels).1 (readLevels levels).2

end Sys2Proof.Machine
end

