-- ==== Sys2Proof/Machine/PositionUnit.lean ====
section
/-! DEFINITION. The position unit: samples, standstill, reference switches, markers and loop detectors (chapter 2). SET_POSITION
stands in StationPort.lean. -/

namespace Sys2Proof.Machine

/-! ### Samples (R21 to R24) -/

/-- A new sample joins the ring as the newest of at most four (R22). -/
def ringPush (ring : List (Int × Word32)) (e : Int × Word32) : List (Int × Word32) :=
  if ring.length < 4 then ring ++ [e] else ring.drop (ring.length - 3) ++ [e]

/-- The speed over the ring: truncated toward zero, a time span of 0 taken as 1 ms, clamped (R23). -/
def ringSpeed (ring : List (Int × Word32)) : Int :=
  match ring with
  | a :: b :: rest =>
    let newest := (b :: rest).getLastD b
    clampTo (-15000) 15000 (((newest.1 - a.1) * 1000).tdiv (max 1 (elapsed newest.2 a.2)))
  | _ => 0

/-- Standstill flag and timer after a sample whose ring holds two or more entries (R24). -/
def standstillAfter (p : Params) (pos : Pos) : Pos :=
  if pos.ring.length < 2 then pos
  else if magnitude pos.v > p.vStill then { pos with standstill := false, standTimer := none }
  else if pos.standTimer.isNone && !pos.standstill then { pos with standTimer := startTimer p.tStill }
  else pos

/-- Steps 1 and 2 of R21. -/
def takeCount (count : Word32) (s : State) : State :=
  let um := s.distanceAt count
  let x := s.toMillimetres um
  s.onPos fun p =>
    let ring := ringPush p.ring (x, s.clock)
    standstillAfter s.params { p with um := um, lastCount := count, x := x, ring := ring, v := ringSpeed ring }

/-- A car's report that confirms the drive (R29). -/
def State.carConfirms (s : State) (car : Role) : Bool :=
  (s.presentWith car).any fun d =>
    d.2.quality == .confirmed
    && decide (magnitude (s.extrapolate (s.peer d.1) d.2 s.clock - s.pos.x) ≤ s.params.tolProve)

/-- The DRIVE becomes CONFIRMED by the two cars (R29). -/
def confirmDrive (s : State) : State :=
  if s.isDrive && s.pos.quality == .unconfirmed && s.carConfirms .carA && s.carConfirms .carB then
    s.onPos fun p => { p with quality := .confirmed }
  else s

/-- The sample timer restarts and the counter pins show the reading (R21). -/
def restartSample (count : Word32) (s : State) : State :=
  (s.onPos fun p => { p with sampleTimer := startTimer s.params.tSamp }).onPins fun p => { p with counter := count }

/-- A sample (R21): count, speed, standstill, marker misses, own record, estimate, envelope, and the DRIVE's reference. A
faulted station only keeps its reading (log 15). DESIGN CHOICE (log 44): the confirmation test of R29 stands after the miss test and
before the estimate is handed on and recomputed. -/
def takeSample (count : Word32) (s : State) : State :=
  let s := restartSample count s
  if s.configFault then s.onPos fun p => { p with lastCount := count }
  else
    let s := reevaluateIfChanged s (takeCount count s)
    let s := reevaluateIfChanged s (missTest 2 s)
    let s := recompute (handEstimate (confirmDrive s))
    if s.isDrive then driveSample s else s

/-- T_still runs out (R24). -/
def endStandTimer (s : State) : State :=
  if s.pos.standTimer.isSome then s.onPos fun p => { p with standstill := true, standTimer := none } else s

/-! ### Reference switches (R27) -/

def switchPin (p : PlantPins) : RefSwitch → Bool
  | .valley => p.valley
  | .summit => p.summit
def setSwitch (active : Bool) (sw : RefSwitch) (p : PlantPins) : PlantPins :=
  match sw with
  | .valley => { p with valley := active }
  | .summit => { p with summit := active }
def otherSwitch : RefSwitch → RefSwitch
  | .valley => .summit
  | .summit => .valley
def switchPosition (p : Params) : RefSwitch → Int
  | .valley => 0
  | .summit => p.L

/-- A switch goes active: taken as a snap unless the other switch is active (R27). The snap may carry x_D into a block with a lower drive
limit, to which v_ref is reduced before the recomputation may prove that block (R107; log 64). -/
def switchActive (sw : RefSwitch) (count : Word32) (s : State) : State :=
  if s.isDrive && !switchPin s.pins sw then
    let s := s.onPins fun p => { setSwitch true sw p with counter := count }
    if s.configFault || switchPin s.pins (otherSwitch sw) then s
    else recompute (adjustReference (handEstimate (snap (switchPosition s.params sw) .confirmed s)))
  else s

/-- A switch goes inactive and may snap again (R27). -/
def switchInactive (sw : RefSwitch) (s : State) : State :=
  if s.isDrive then s.onPins (setSwitch false sw) else s

/-! ### Markers (R33) -/

/-- The reader presents a code with the counter at `count` (R33). -/
def markerArrives (code : BitVec 6) (count : Word32) (s : State) : State :=
  if s.isCar then
    let s := s.onPins fun p => { p with counter := count }
    takeMarker code.toNat (s.toMillimetres (s.distanceAt count)) s
  else s

/-! ### Loop detectors (R38 to R41) -/

def detectorPin (p : PlantPins) : Detector → Bool
  | .daLow => p.daLow | .daHigh => p.daHigh | .dbLow => p.dbLow | .dbHigh => p.dbHigh
def setDetectorPin (active : Bool) (d : Detector) (p : PlantPins) : PlantPins :=
  match d with
  | .daLow => { p with daLow := active }
  | .daHigh => { p with daHigh := active }
  | .dbLow => { p with dbLow := active }
  | .dbHigh => { p with dbHigh := active }
def Det.unit (d : Det) : Detector → DetUnit
  | .daLow => d.daLow | .daHigh => d.daHigh | .dbLow => d.dbLow | .dbHigh => d.dbHigh
def Det.setUnit (d : Det) (which : Detector) (u : DetUnit) : Det :=
  match which with
  | .daLow => { d with daLow := u }
  | .daHigh => { d with daHigh := u }
  | .dbLow => { d with dbLow := u }
  | .dbHigh => { d with dbHigh := u }
def detectorPosition (p : Params) : Detector → Int
  | .daLow => p.posDaLow | .daHigh => p.posDaHigh | .dbLow => p.posDbLow | .dbHigh => p.posDbHigh
/-- The car whose track a detector is on (R39). -/
def detectorCar : Detector → Role
  | .daLow | .daHigh => .carA
  | .dbLow | .dbHigh => .carB
def Det.passage (d : Det) : Role → Option Passage
  | .carA => d.passageA
  | .carB => d.passageB
  | .drive | .loop | .wayside => none
def Det.setPassage (d : Det) (car : Role) (p : Option Passage) : Det :=
  match car with
  | .carA => { d with passageA := p }
  | .carB => { d with passageB := p }
  | .drive | .loop | .wayside => d

/-- The disagreement of a fix with the car's extrapolated position, where it is compared (R39). -/
def State.fixDifference (s : State) (d : Detector) : Option Int :=
  (s.presentWith (detectorCar d)).bind fun r =>
    if r.2.quality = .unknown then none
    else some (magnitude (detectorPosition s.params d - s.extrapolate (s.peer r.1) r.2 s.clock))

/-- The effects of a fix comparison (R39). -/
def compareFix (d : Detector) (s : State) : State :=
  match s.fixDifference d with
  | some diff =>
    if diff > s.params.tolWarn then
      let s := unproveBlock (s.blockOf (detectorPosition s.params d)) .loopFix s.ownSlot s
      if diff > s.params.tolTrip then latchTrip .recon s else s
    else s
  | none => s

/-- The passage speed (R40). -/
def passageSpeed (distance time : Int) : Int := min 15000 (ceilDiv (distance * 1000) (max 1 time))

/-- The passage limit between two detectors (R40). -/
def State.passageLimit (s : State) (a b : Detector) : Int :=
  listMin ((blockRange (s.blockOf (detectorPosition s.params a)) (s.blockOf (detectorPosition s.params b))).map s.limit)

/-- A fix opens or completes a passage of its track (R40). -/
def timePassage (d : Detector) (s : State) : State :=
  match s.det.passage (detectorCar d) with
  | some q =>
    if q.det = d then s.onDet fun t => t.setPassage (detectorCar d) (some ⟨d, s.clock⟩)
    else
      let dist := magnitude (detectorPosition s.params d - detectorPosition s.params q.det)
      let fast := decide (passageSpeed dist (elapsed s.clock q.time) > s.passageLimit q.det d + s.params.dTrip)
      let s := s.onDet fun t => t.setPassage (detectorCar d) none
      if fast then latchTrip .overspeed s else s
  | none => s.onDet fun t => t.setPassage (detectorCar d) (some ⟨d, s.clock⟩)

/-- A detector goes active: its stuck timer starts, and the fix is compared and timed (R38 to R41), in that order (log 5). -/
def detectorGoesActive (d : Detector) (s : State) : State :=
  if s.isRole .loop && !detectorPin s.pins d then
    let s := (s.onPins (setDetectorPin true d)).onDet fun t =>
      t.setUnit d { t.unit d with stuckTimer := startTimer s.params.tDetMax }
    if s.configFault then s else timePassage d (reevaluateIfChanged s (compareFix d s))
  else s

def pushDetectorFault (d : Detector) (value : Int) (s : State) : State :=
  pushEvent .detectorFault s.ownSlot (s.eventBlock (detectorPosition s.params d)) value s

/-- A detector goes inactive: its timer stops and a fault clears (R41). -/
def detectorGoesInactive (d : Detector) (s : State) : State :=
  if s.isRole .loop && detectorPin s.pins d then
    let was := (s.det.unit d).fault
    let s := (s.onPins (setDetectorPin false d)).onDet fun t => t.setUnit d DetUnit.clear
    if was then pushDetectorFault d 0 s else s
  else s

/-- T_det_max runs out (R41). -/
def detectorStuck (d : Detector) (s : State) : State :=
  if (s.det.unit d).stuckTimer.isSome then
    pushDetectorFault d 1 (s.onDet fun t => t.setUnit d ⟨none, true⟩)
  else s

/-! ### Meanings -/

/-- R21. -/
def execSampleTimerExpiry (count : Word32) (s : State) : Host.Outcome State Fault Refusal :=
  .next (if s.phase = .running ∧ s.pos.sampleTimer.isSome = true then finishWith true s (takeSample count s) else s)

def execStandstillTimerExpiry (s : State) : Host.Outcome State Fault Refusal := event s endStandTimer
def execReferenceSwitchActive (sw : RefSwitch) (count : Word32) (s : State) : Host.Outcome State Fault Refusal :=
  event s (switchActive sw count)
def execReferenceSwitchInactive (sw : RefSwitch) (s : State) : Host.Outcome State Fault Refusal :=
  event s (switchInactive sw)
def execMarkerArrival (code : BitVec 6) (count : Word32) (s : State) : Host.Outcome State Fault Refusal :=
  event s (markerArrives code count)
def execDetectorActive (d : Detector) (s : State) : Host.Outcome State Fault Refusal := event s (detectorGoesActive d)
def execDetectorInactive (d : Detector) (s : State) : Host.Outcome State Fault Refusal := event s (detectorGoesInactive d)
def execStuckTimerExpiry (d : Detector) (s : State) : Host.Outcome State Fault Refusal := event s (detectorStuck d)

end Sys2Proof.Machine
end

