-- ==== Sys2Proof/Machine/PeerTable.lean ====
section
/-! DEFINITION. The peer table: an accepted STATUS, the freshness timers, the STATUS, recomputation and load timers, and the
trip origin set that STATUS and TRIP frames change (chapter 4, R171). -/

namespace Sys2Proof.Machine

/-! ### The consent view (R80, R97) -/

/-- The consent of a slot whose record leaves PRESENT drops out of the view (R68, R97). -/
def dropConsent (i : Slot) (s : State) : State := s.onRecord fun r => { r with consents := setAt r.consents i none }

/-- The DRIVE takes the consent of an accepted STATUS whose record is PRESENT; an EXCLUDED record has none (R97). -/
def takeConsent (i : Slot) (st : Status) (s : State) : State :=
  if s.isDrive && (s.peer i).state == .present then
    s.onRecord fun r => { r with consents := setAt r.consents i st.consentsTo }
  else dropConsent i s

/-! ### Exclusion (R62 to R64) -/

/-- Another slot than those two holds a live claim on a role (R63). -/
def State.claimedByOther (s : State) (i : Slot) (r : Role) : Bool :=
  slots.any fun j => decide (j ≠ i) && decide (j ≠ s.ownSlot) && (s.peer j).liveClaim r

/-- The exclusion cause of a STATUS from a slot (R62). -/
def State.exclusionCause (s : State) (i : Slot) (st : Status) : Exclusion :=
  match st.role with
  | none => .profile
  | some r =>
    if st.profileId ≠ s.loader.profileId ∨ st.fault = true ∨ s.configFault = true then .profile
    else if r ≠ .wayside ∧ (s.isRole r || s.claimedByOther i r) = true then .role
    else .none

/-- The record after the second step of R62. -/
def renewedRecord (p : Params) (now : Word32) (cause : Exclusion) (st : Status) : PeerRecord where
  state := if cause = .none then .present else .excluded
  exclusion := cause
  arrival := now
  staleTimer := startTimer p.tStale
  lostTimer := startTimer p.tLost
  contents := some st

/-- PEER_PRESENT or PEER_EXCLUDED for a record that entered the state (R62, R66). -/
def pushRecordEvent (i : Slot) (old : RecState) (cause : Exclusion) (s : State) : State :=
  if cause = .none then
    if old = .present then s else pushEvent .peerPresent i none (old.code : Int) s
  else if old = .excluded then s else pushEvent .peerExcluded i none (cause.code : Int) s

/-- A PRESENT record of another slot with a live claim on the role becomes EXCLUDED too (R63). -/
def excludeClaimants (i : Slot) (r : Role) (s : State) : State :=
  slots.foldl (fun s j =>
    if j ≠ i ∧ j ≠ s.ownSlot ∧ (s.peer j).state = .present ∧ (s.peer j).liveClaim r = true then
      pushEvent .peerExcluded j none (Exclusion.role.code : Int)
        (dropConsent j (s.setPeer j { s.peer j with state := .excluded, exclusion := .role }))
    else s) s

/-- ROLE_CONFLICT is raised by a claim on the own role (R64). -/
def raiseRoleConflict (i : Slot) (r : Role) (s : State) : State :=
  if s.isRole r && !s.peerCtl.roleConflict then
    pushEvent .roleConflict i none 1 (s.onPeerCtl fun c => { c with roleConflict := true })
  else s

/-- Some peer slot holds a live claim on the own role. -/
def State.ownRoleClaimed (s : State) : Bool :=
  s.role.any fun r => slots.any fun j => decide (j ≠ s.ownSlot) && (s.peer j).liveClaim r

/-- ROLE_CONFLICT clears when no peer slot claims the own role; the slot is the one whose claim ended (R64, log 12). -/
def clearRoleConflict (i : Slot) (s : State) : State :=
  if s.peerCtl.roleConflict && !s.ownRoleClaimed then
    pushEvent .roleConflict i none 0 (s.onPeerCtl fun c => { c with roleConflict := false })
  else s

/-- Steps one and two of R62, with the exclusions of R63 and the condition of R64. -/
def renewRecord (i : Slot) (st : Status) (s : State) : State :=
  let cause := s.exclusionCause i st
  let old := (s.peer i).state
  let s := pushRecordEvent i old cause (s.setPeer i (renewedRecord s.params s.clock cause st))
  let s := match cause, st.role with
    | .role, some r => raiseRoleConflict i r (excludeClaimants i r s)
    | _, _ => s
  clearRoleConflict i s

/-! ### The parts of a STATUS (R67) -/

/-- A car's report of a new marker fault, against what the record held (R11). -/
def takeMarkerReport (old : PeerRecord) (i : Slot) (st : Status) (s : State) : State :=
  match st.faultBlock with
  | some k =>
    let held := if old.state = .absent ∨ old.state = .lost then none else old.contents.bind (·.faultBlock)
    if (st.role.any Role.isCar) = true ∧ held ≠ some k ∧ k < s.blocks.length then unproveBlock k .carMark i s else s
  | none => s

/-- A received restriction entry, clamped (R17). -/
def clampRestriction (p : Params) (n : Nat) (r : Restriction) : Restriction :=
  { r with count := min r.count n, speed := clampTo p.vCreep p.vMax r.speed }

/-- The sender's restriction entry replaces the one held (R17). A faulted station holds no profile and no list (log 15). -/
def takeRestriction (i : Slot) (st : Status) (s : State) : State :=
  if s.configFault then s
  else s.onProfile fun p =>
    { p with restrictions := setAt p.restrictions i (st.restriction.map (clampRestriction s.params s.blocks.length)) }

/-- A slot enters the trip origin set or takes a new cause (R171, R12). -/
def enterOrigin (i : Slot) (c : TripCause) (s : State) : State :=
  let was := s.trips.origins.get i
  let s := s.onTrips fun t => { t with origins := setAt t.origins i (some c) }
  let s := if was.isNone then pushEvent .tripRemote i none (c.code : Int) s else s
  let s := if c = .recon ∧ was ≠ some .recon then unproveEvery 6 i s else s
  enterTripped s

/-- A slot leaves the trip origin set (R171, R172). DESIGN CHOICE (log 67): the parking level of a TRIPPED that ends so is formed in IDLE,
and a PARK_DEGRADED of it carries no run id. -/
def leaveOrigin (i : Slot) (s : State) : State :=
  match s.trips.origins.get i with
  | some c =>
    exitTripped (pushEvent .tripCleared i none (c.code : Int)
      (s.onTrips fun t => { t with origins := setAt t.origins i none }))
  | none => s

def takeTripFlag (i : Slot) (st : Status) (s : State) : State :=
  match st.trip with
  | some c => enterOrigin i c s
  | none => leaveOrigin i s

/-- A hold flag clear removes the sender's slot (R148). -/
def takeHoldCleared (i : Slot) (st : Status) (s : State) : State := if st.hold then s else removeHold i s

/-- A hold flag set for the current run enters the sender's slot (R148). -/
def takeHoldSet (i : Slot) (st : Status) (s : State) : State :=
  if st.hold = true ∧ st.runId = s.runId then enterHold i false s else s

/-- A car with quality UNKNOWN adopts the drive's position (R30). -/
def adoptPosition (i : Slot) (st : Status) (s : State) : State :=
  if s.isCar && s.pos.quality == .unknown && decide (st.quality ≠ .unknown) then
    chooseAwaited (handEstimate (snap (s.extrapolate (s.peer i) st s.clock) .unconfirmed s))
  else s

/-- The run view of a PRESENT drive record, at another role (R67). -/
def takeRunView (i : Slot) (st : Status) (s : State) : State :=
  if !s.isDrive && s.driveRecord.any fun d => d.1 == i then takeDriveView st i s else s

def takeAdoption (i : Slot) (st : Status) (s : State) : State :=
  if s.driveRecord.any fun d => d.1 == i then adoptPosition i st s else s

/-- The third step of R62, part by part (log 9). DESIGN CHOICE (log 55): the clear hold flag is looked at before the run view, so a
follower in STOPPING at line standstill enters HELD (R154) before its leg ends (R113); with the flag set its leg ends from STOPPING. -/
def takeParts (old : PeerRecord) (i : Slot) (st : Status) (s : State) : State :=
  let s := reevaluateIfChanged s (takeMarkerReport old i st s)
  let s := reevaluateIfChanged s (takeRestriction i st s)
  let s := takeConsent i st (reevaluateIfChanged s (takeTripFlag i st s))
  let s := takeHoldSet i st (takeRunView i st (takeHoldCleared i st s))
  let s := takeAdoption i st s
  recompute (if st.role.any Role.isCar then confirmDrive s else s)

/-- An accepted STATUS from another slot (R62). The loads and the line standstill it brings have their evaluation before its parts, and so
has the demand it brings its effect on v_ref and on parking (R141, R165). -/
def takeStatus (i : Slot) (st : Status) (s : State) : State :=
  takeParts (s.peer i) i st (followDemand (reevaluateIfChanged s (renewRecord i st s)))

/-- A TRIP frame: the record's trip part where the record is not ABSENT, and the origin set (R171). -/
def takeTripFrame (i : Slot) (c : TripCause) (s : State) : State :=
  let r := s.peer i
  enterOrigin i c (s.setPeer i { r with contents := r.contents.map fun st => { st with trip := some c } })

/-! ### Freshness timers (R65, R149) -/

/-- T_stale runs out (R65). The estimate is recomputed where the record's state changes (R74); an EXCLUDED record only loses its
live claim (R63). -/
def recordStale (i : Slot) (s : State) : State :=
  let r := s.peer i
  if r.staleTimer.isSome then
    let before := s
    let s := s.setPeer i { r with staleTimer := none, state := if r.state = .present then .stale else r.state }
    if r.state = .present then
      recompute (reevaluateIfChanged before (clearRoleConflict i (pushEvent .peerStale i none 0 (dropConsent i s))))
    else clearRoleConflict i s
  else s

/-- The lost record was a required role's (R97, R149). -/
def State.requiredRecord (s : State) (r : PeerRecord) : Bool :=
  r.contents.any fun st => st.role.any s.requiredRoles.contains

/-- T_lost runs out (R65): LOST, the sequence memory NONE, and the implicit hold of a required role (R149). DESIGN CHOICE (log 37):
the exclusion cause, which R59 gives a meaning in EXCLUDED only, becomes none. DESIGN CHOICE (log 61): the hold is entered before the
recomputation (R74), so its hold target (R151) rests on the x_sup of before. -/
def recordLost (i : Slot) (s : State) : State :=
  let r := s.peer i
  if r.lostTimer.isSome && (r.state == .stale || r.state == .excluded) then
    let s := s.setPeer i { r with state := .lost, exclusion := .none, staleTimer := none, lostTimer := none }
    let s := pushEvent .peerLost i none (r.state.code : Int) (s.onRx fun x => { x with seqMem := setAt x.seqMem i none })
    let s := clearRoleConflict i s
    let s := if r.state == .stale && s.requiredRecord r && !s.configFault then enterHold i true s else s
    recompute s
  else s

/-! ### The other timers -/

/-- T_status runs out: a STATUS, and at an abort's origin its ABORT again (R69, R156). -/
def statusDue (s : State) : State :=
  if s.peerCtl.statusTimer.isSome then
    let s := sendStatus s
    if s.run.run.abortOrigin then originateRun .abort s else s
  else s

/-- The recomputation timer of LOOP and WAYSIDE runs out (R74). -/
def recomputationDue (s : State) : State :=
  if s.peerCtl.recompTimer.isSome then
    recompute (s.onPeerCtl fun c => { c with recompTimer := startTimer s.params.tSamp })
  else s

/-- T_load runs out (R77). -/
def loadLapses (s : State) : State :=
  if s.car.loadTimer.isSome then s.onCar fun c => { c with loadFresh := false, loadTimer := none } else s

/-! ### Meanings -/

def execRecomputationTimerExpiry (s : State) : Host.Outcome State Fault Refusal := event s recomputationDue
def execStaleTimerExpiry (slot : Slot) (s : State) : Host.Outcome State Fault Refusal := event s (recordStale slot)
def execLostTimerExpiry (slot : Slot) (s : State) : Host.Outcome State Fault Refusal := event s (recordLost slot)
def execStatusTimerExpiry (s : State) : Host.Outcome State Fault Refusal := event s statusDue
def execLoadTimerExpiry (s : State) : Host.Outcome State Fault Refusal := event s loadLapses

end Sys2Proof.Machine
end

