-- ==== Sys2Proof/Machine/LineInterface.lean ====
section
/-! DEFINITION. The line interface: sending, receiving, line state (chapter 3), with the delivery of run frames to the run
controller (R83, R86 to R88, R92, R93, R100, R102, R116, R148, R158). -/

namespace Sys2Proof.Machine

/-! ### Sending (R42, R45, R48 to R50) -/

def setIdle (l : LineId) (idle : Bool) (s : State) : State := s.onLine l fun x => { x with idle := idle }

/-- The first waiting frame begins, with its number. -/
def markSending (seq : Byte) : List TxFrame → List TxFrame
  | [] => []
  | g :: rest => if g.sending then g :: markSending seq rest else { g with sending := true, seq := some seq } :: rest

/-- The copy of a frame on the other line carries the same number (R45). -/
def shareNumber (ident : Nat) (seq : Byte) (q : List TxFrame) : List TxFrame :=
  q.map fun g => if g.ident = ident ∧ g.seq.isNone = true then { g with seq := some seq } else g

def Line.transmitting (x : Line) : Bool := x.queue.any (·.sending)

/-- The first waiting frame begins on an idle line; it takes its number where it has none (R45, R48). -/
def beginFrame (l : LineId) (s : State) : State :=
  match (s.line l).idle && !(s.line l).transmitting, (s.line l).queue.find? fun g => !g.sending with
  | true, some f =>
    let seq := f.seq.getD s.rx.seqCounter
    let s := s.onLine l fun x => { x with idle := false, queue := markSending seq x.queue }
    let s := s.onLine (otherLine l) fun x => { x with queue := shareNumber f.ident seq x.queue }
    if f.seq.isNone then s.onRx fun r => { r with seqCounter := r.seqCounter + 1 } else s
  | _, _ => s

/-- The levels that the station drives on a line for its frame in transmission (R42, R48); recessive, with none. -/
def State.drivenLevels (s : State) (l : LineId) : List Bool :=
  match (s.line l).queue.find? (·.sending) with
  | some f => frameLevels (frameBytes s.ownSlot (f.seq.getD s.rx.seqCounter) f.body)
  | none => []

/-- A frame completes and leaves its queue (R48). -/
def completeFrame (l : LineId) (s : State) : State :=
  s.onLine l fun x => { x with queue := x.queue.eraseP (·.sending) }

/-- The frame in transmission goes back to waiting; a STATUS that another waiting STATUS has followed gives way to it, for a
queue holds at most one waiting STATUS (R46, R49, R50; log 29). -/
def returnFrame (q : List TxFrame) : List TxFrame :=
  match q.find? (·.sending) with
  | some f =>
    if f.body.isStatus && waitingStatus q then q.eraseP (·.sending)
    else q.map fun g => if g.sending then { g with sending := false } else g
  | none => q

def stopFrame (l : LineId) (s : State) : State := s.onLine l fun x => { x with queue := returnFrame x.queue }

/-! ### Line state (R56, R57) -/

/-- A timer still runs: started and not run out. -/
def timerRuns (t : Timer) : Bool :=
  match t with
  | some (_ + 1) => true
  | _ => false

def pushLine (kind : EventKind) (l : LineId) (s : State) : State :=
  pushEvent kind s.ownSlot none (lineNumber l : Int) s

def lineDown (l : LineId) (s : State) : State := pushLine .lineDown l (s.onLine l fun x => { x with up := false })

/-- The other line, silent and UP when a valid frame arrives, becomes DOWN (R56). -/
def judgeOther (l : LineId) (s : State) : State :=
  let o := s.line (otherLine l)
  if o.up && !timerRuns o.silence then lineDown (otherLine l) s else s

/-- A valid frame restarts its line's silence timer and may bring the line UP and the other line DOWN (R56, R57). DESIGN CHOICE
(log 35): where it does both, LINE_UP is queued first. -/
def hearLine (l : LineId) (s : State) : State :=
  let was := (s.line l).up
  let s := s.onLine l fun x => { x with silence := startTimer s.params.tLost, up := true }
  judgeOther l (if was then s else pushLine .lineUp l s)

/-- A silence timer runs out (R56). -/
def lineSilent (l : LineId) (s : State) : State :=
  if (s.line l).silence.isSome then
    let up := (s.line l).up
    let s := s.onLine l fun x => { x with silence := none }
    if up && timerRuns (s.line (otherLine l)).silence then lineDown l s else s
  else s

/-! ### Run frames (R83) -/

/-- The run controller takes frames at all: no CONFIG_FAULT and no listen period (R83, R148, R158, R194). -/
def State.takesRunFrames (s : State) : Bool := !s.configFault && !s.listening

def PeerRecord.known (r : PeerRecord) : Bool := r.state == .present || r.state == .stale || r.state == .lost
/-- A known sender whose latest STATUS carries the role DRIVE (R83). -/
def PeerRecord.knownDrive (r : PeerRecord) : Bool := r.known && r.contents.any fun st => st.role == some .drive

/-- The new run of a RUN_OPEN wins over the current one (R87). -/
def contentionWins (new cur : RunId) : Bool :=
  decide (new.origin.val < cur.origin.val)
  || (decide (new.origin = cur.origin) && within 1 127 ((new.counter - cur.counter).toNat : Int))

/-- RUN_OPEN (R86, R87). -/
def takeRunOpen (id : RunId) (kind : RunKind) (dir : Dir) (loopStop : Bool) (s : State) : State :=
  match s.run.state, s.runId with
  | .idle, _ => enterDispatch id kind dir loopStop s
  | .dispatch, some cur | .awaitGo, some cur =>
    if contentionWins id cur then
      let s := endRun .contention id.origin s
      if s.inState .idle then enterDispatch id kind dir loopStop s else s
    else s
  | _, _ => s

/-- The halt test of R91. -/
def State.haltTest (s : State) (pos : Int) : Bool :=
  decide (0 < s.dirSgn * (pos - s.xSup)) && decide (0 < s.dirSgn * (s.terminal - pos))
  && within s.params.allowTerminal (s.params.L - s.params.allowTerminal) pos && !(s.block (s.blockOf pos)).noHalt

/-- A halt position can join the list: it merges, or there is room (R91, R92). -/
def State.haltFits (s : State) (pos : Int) : Bool :=
  merges s.params s.run.run.stops pos || decide (s.run.run.stops.length < 8)

/-- An addition taken: inserted or merged, and the window restarts (R91, R92). -/
def addHaltEntry (pos : Int) (s : State) : State :=
  restartDispatch (insertStop (stopEntry s.params pos .halt .pending) s)

/-- ADD_STOP (R92). -/
def takeAddStop (pos : Int) (s : State) : State :=
  if s.inState .dispatch && s.isKind .inspection && !s.noPosition && s.haltTest pos && s.haltFits pos
  then addHaltEntry pos s else s

/-- The LOOP entry is added by the insertion step unless the list holds one (R93, R118). -/
def addLoopEntry (s : State) : State := if s.hasLoopEntry then s else insertStop (loopEntry s.params .pending) s

/-- LOOP_CALL (R93, R116). -/
def takeLoopCall (s : State) : State :=
  if !s.isKind .service then s
  else if s.inState .dispatch then
    if s.runDir.any s.loopAhead then
      let s := addLoopEntry s
      if s.hasLoopEntry then restartDispatch s else s
    else s
  else if (s.inMotion || s.inState .held) && s.run.run.decision == .undecided then
    s.onRecord fun r => { r with designator := true }
  else s

/-- RUN_GO at a station other than the DRIVE (R99, R100, R114, R122, R155). After a start that the drive's STATUS told, the next frame
of the leg is the other sign of that start and is ignored (log 32). -/
def takeRunGo (id : RunId) (leg : Nat) (target : Int) (s : State) : State :=
  if s.isDrive || s.tripAsserted then s
  else
    let same := decide (s.runId = some id)
    match s.run.state with
    | .idle => rejoinOnGo id leg target s
    | .dispatch | .awaitGo =>
      if same then (if leg = 0 then followLegZero .runGo target s else s)
      else rejoinOnGo id leg target (endRun .contention id.origin s)
    | .dwell => if same && leg == s.run.run.leg + 1 then nextLegFollow .runGo target s else s
    | .held =>
      if same && leg == s.run.run.leg then
        (if s.run.run.startedBy = some .status then signTaken s else resumeFollow .runGo target s)
      else s
    | .moving | .stopping =>
      if same && leg == s.run.run.leg && s.run.run.startedBy == some .status then signTaken s else s
    | .arrived | .tripped => s

/-- RUN_CLOSE (R102). -/
def takeRunClose (i : Slot) (id : RunId) (cause : CloseCause) (s : State) : State :=
  if s.runId = some id ∧ s.inState .idle = false ∧ s.inState .tripped = false then endRun cause i s else s

/-- A frame for the current run, where holds may be taken (R148). -/
def State.holdFrameFor (s : State) (id : RunId) : Bool := s.takesRunFrames && s.takesHolds && s.runId == some id

/-- ABORT (R158, R159). -/
def takeAbortFrame (id : RunId) (s : State) : State :=
  if s.takesRunFrames && s.runId == some id && !s.inState .idle && !s.inState .tripped then takeAbort s else s

/-- Delivery of an accepted frame to its owner (R55, R83, R148, R158). -/
def deliver (i : Slot) (b : Body) (s : State) : State :=
  let run := s.takesRunFrames && (s.peer i).known
  let drive := s.takesRunFrames && (s.peer i).knownDrive
  match b with
  | .status st => takeStatus i st s
  | .runOpen id k d f => if run then takeRunOpen id k d f s else s
  | .addStop id p => if run && s.runId == some id then takeAddStop p s else s
  | .loopCall id => if run && s.runId == some id then takeLoopCall s else s
  | .runGo id leg t => if drive then takeRunGo id leg t s else s
  | .runClose id c => if drive then takeRunClose i id c s else s
  | .hold id => if s.holdFrameFor id then enterHold i false s else s
  | .release id => if s.holdFrameFor id then removeHold i s else s
  | .abort id => takeAbortFrame id s
  | .trip c => takeTripFrame i c s

/-! ### Receiving (R51 to R53) -/

/-- The own-slot rule (R52). -/
def takeOwnSlot (l : LineId) (s : State) : State :=
  if s.rx.slotConflict then s else pushLine .slotConflict l (s.onRx fun r => { r with slotConflict := true })

/-- The number is accepted against a memory (R53). -/
def accepts (memory : Option Byte) (n : Byte) : Bool :=
  match memory with
  | none => true
  | some m => within 1 127 ((n - m).toNat : Int)

/-- A valid frame (R52, R53, R56, R57). DESIGN CHOICE (log 35): LINE_UP and LINE_DOWN are queued before the SLOT_CONFLICT of the same frame. -/
def takeFrame (l : LineId) (f : RxFrame) (s : State) : State :=
  let s := hearLine l s
  if f.sender = s.ownSlot then takeOwnSlot l s
  else if accepts (s.rx.seqMem.get f.sender) f.seq then
    deliver f.sender f.body (s.onRx fun r => { r with seqMem := setAt r.seqMem f.sender (some f.seq) })
  else s

/-- A frame reaches the receiver; one that is no valid frame is discarded (R51). Its start bit ended the idle state (R42). -/
def frameArrives (l : LineId) (bytes : List Byte) (delimited : Bool) (s : State) : State :=
  let s := setIdle l false s
  match parseFrame bytes delimited with
  | some f => takeFrame l f s
  | none => s

/-! ### Meanings -/

def execFrameArrival (l : LineId) (bytes : List Byte) (delimited : Bool) (s : State) : Host.Outcome State Fault Refusal :=
  event s (frameArrives l bytes delimited)
def execLineIdle (l : LineId) (s : State) : Host.Outcome State Fault Refusal := quietEvent s (setIdle l true)
def execLineStartBit (l : LineId) (s : State) : Host.Outcome State Fault Refusal := quietEvent s (setIdle l false)
def execTxStart (l : LineId) (s : State) : Host.Outcome State Fault Refusal := quietEvent s (beginFrame l)
def execTxComplete (l : LineId) (s : State) : Host.Outcome State Fault Refusal := quietEvent s (completeFrame l)
def execArbitrationLost (l : LineId) (s : State) : Host.Outcome State Fault Refusal := quietEvent s (stopFrame l)
def execReadbackDisagreement (l : LineId) (s : State) : Host.Outcome State Fault Refusal := quietEvent s (stopFrame l)
def execSilenceTimerExpiry (l : LineId) (s : State) : Host.Outcome State Fault Refusal := event s (lineSilent l)

end Sys2Proof.Machine
end

