-- ==== Sys2Proof/Machine/LoaderUnit.lean ====
section
/-! DEFINITION. Supply, reset and loader: RESET_ASSERT, START_UP, START_UP_COMPLETE, LISTEN_PERIOD_EXPIRY (R189 to R194). -/

namespace Sys2Proof.Machine

/-- Reset asserted: everything the part holds ends (R189). The queue and the count of free values are the model's own. -/
def resetAssert (s : State) : State := { State.reset with pending := s.pending, freeUses := s.freeUses }

/-- The clock starts and the straps are read once (R189). -/
def startUp (slotStraps : Slot) (roleStraps : Fin 8) (s : State) : State :=
  { s with phase := .loading, clock := 0, straps := ⟨slotStraps, roleStraps⟩ }

/-- The loader after the read (R190 to R193). -/
def loadedLoader (roleCode : Fin 8) (img : List Byte) : Loader :=
  match loadImage roleCode img with
  | .ok im => ⟨some im, none, profileIdentity img, im.params.bitRate.toNat, none⟩
  | .error f => ⟨none, some f, (0, 0), faultedBitRate img, none⟩

/-- Every block in its start-up state (R192; R26, R58, R79, R126, R143, R176, R188), with the levels the pins have. -/
def startUpBlocks (img : List Byte) (pins : PlantPins) (s : State) : State :=
  { State.reset with
    pending := s.pending
    freeUses := s.freeUses
    phase := .running
    clock := s.clock
    straps := s.straps
    pins := pins
    outputs := s.outputs
    loader := loadedLoader s.straps.roleCode img }

/-- A detector active at start-up runs its stuck timer (R41). -/
def startDetector (active : Bool) (length : Int) (u : DetUnit) : DetUnit :=
  if active then { u with stuckTimer := startTimer length } else u

/-- The timers that run from the end of start-up (R21, R41, R56, R74, R194). -/
def startTimers (s : State) : State :=
  let p := s.params
  let samples := s.hasEstimate
  let recomputes := s.isRole .loop || s.isRole .wayside
  let loop := s.isRole .loop
  { s with
    loader := { s.loader with listenTimer := startTimer (2 * p.tLost) }
    line1 := { s.line1 with silence := startTimer p.tLost }
    line2 := { s.line2 with silence := startTimer p.tLost }
    peerCtl := { s.peerCtl with recompTimer := if recomputes then startTimer p.tSamp else none }
    pos := { s.pos with
      lastCount := s.pins.counter
      sampleTimer := if samples then startTimer p.tSamp else none }
    det := { s.det with
      daLow := startDetector (loop && s.pins.daLow) p.tDetMax s.det.daLow
      daHigh := startDetector (loop && s.pins.daHigh) p.tDetMax s.det.daHigh
      dbLow := startDetector (loop && s.pins.dbLow) p.tDetMax s.det.dbLow
      dbHigh := startDetector (loop && s.pins.dbHigh) p.tDetMax s.det.dbHigh } }

/-- The reference switch active at start-up, when exactly one is, snaps the DRIVE (R27). -/
def startSwitch (s : State) : State :=
  if s.isDrive && s.pins.valley && !s.pins.summit then snap 0 .confirmed s
  else if s.isDrive && s.pins.summit && !s.pins.valley then snap s.params.L .confirmed s
  else s

/-- Completion with an accepted image: switch, estimate, emergency-stop input, own record (R192, R27, R74, R79, R170).
DESIGN CHOICE (log 52): the estimate, its evaluation and at a DRIVE the first parking level, with its PARK_DEGRADED (R165, R166, R176, R192),
come before LOCAL of an emergency-stop input already active. -/
def completeAccepted (s : State) : State :=
  let s := recompute (startSwitch s)
  let s := if s.pins.emergencyStop then latchTrip .localTrip s else s
  sendStatus s

/-- Completion in CONFIG_FAULT: own demand TRIP, the CONFIG trip, then the CONFIG_FAULT record (R193, R143). -/
def completeFaulted (f : ConfigFault) (s : State) : State :=
  let s := latchTrip .config (s.onEnv fun e => { e with demand := .trip })
  sendStatus (pushEvent .configFault s.ownSlot f.block (f.code : Int) s)

/-- Start-up completes (R192). -/
def startUpComplete (img : List Byte) (pins : PlantPins) (s : State) : State :=
  let before := startUpBlocks img pins s
  let s := startTimers before
  finishWith false before (match s.loader.fault with
    | some f => completeFaulted f s
    | none => completeAccepted s)

/-- The listen period ends: the first STATUS is originated (R194, R69). -/
def endListen (s : State) : State :=
  if s.listening then sendStatus { s with loader := { s.loader with listenTimer := none } } else s

/-! ### Meanings -/

def execResetAssert (s : State) : Host.Outcome State Fault Refusal := .next (resetAssert s)

def execStartUp (slotStraps : Slot) (roleStraps : Fin 8) (s : State) : Host.Outcome State Fault Refusal :=
  .next (if s.phase = .inReset then startUp slotStraps roleStraps s else s)

def execStartUpComplete (image : List Byte) (pins : PlantPins) (s : State) : Host.Outcome State Fault Refusal :=
  .next (if s.phase = .loading then startUpComplete image pins s else s)

def execListenPeriodExpiry (s : State) : Host.Outcome State Fault Refusal := event s endListen

end Sys2Proof.Machine
end

