-- ==== Sys2Proof/Machine/RunController.lean ====
section
/-! DEFINITION. The run controller's port commands and timers (R84, R89, R91, R93, R96, R101, R103, R116, R146, R147, R157),
and the command slot they share (R179, R181). -/

namespace Sys2Proof.Machine

/-! ### The command slot -/

/-- A WRITE_COMMAND takes the slot: a BUSY one is superseded, then the code, BUSY, NONE and unread clear (R179, R181). -/
def takeSlot (code : Byte) (s : State) : State :=
  let s := if s.port.busy then pushEvent .cmdSuperseded s.ownSlot none (s.port.code.toNat : Int) s else s
  s.onPort fun p => { p with code := code, busy := true, result := .none, unread := false }

def startCommand (c : CommandName) (s : State) : State := takeSlot c.code s

/-- Parameter word 1 to 6 as it stands (R178). -/
def State.param (s : State) (i : Fin 6) : Int := (s.port.params.get i).toInt

/-- The command completes at once and changes nothing else. -/
def answer (r : Result) (s : State) : State := complete r s

/-! ### REQUEST_RUN (R84, R85) -/

structure RunRequest where
  kind : RunKind
  dir : Dir
  loopStop : Bool
deriving DecidableEq, Repr

/-- The parameters of REQUEST_RUN, when they pass the first test of R84. -/
def State.runRequest (s : State) : Option RunRequest :=
  match RunKind.ofCode (s.port.params.get 0).toNat, Dir.ofCode (s.port.params.get 1).toNat, s.param 2 with
  | some k, some d, f =>
    if f = 0 then some ⟨k, d, false⟩
    else if f = 1 ∧ k = .service then some ⟨k, d, true⟩ else none
  | _, _, _ => none

/-- The direction leads away from x_sup by more than W (R84, test 5). -/
def State.leadsAway (s : State) (d : Dir) : Bool :=
  match d with
  | .up => decide (s.params.L - s.xSup > s.params.W)
  | .down => decide (s.xSup > s.params.W)

/-- Tests 2 to 5 of R84: the result of the first that fails. -/
def State.requestRefusal (s : State) (d : Dir) : Option Result :=
  if s.configFault || s.listening || !(s.inState .idle || s.inState .tripped) then some .wrongState
  else if s.inState .tripped || s.tripAsserted then some .tripped
  else if s.noPosition then some .noPosition
  else if !s.leadsAway d then some .nothingToDo else none

/-- The run is opened: counter, RUN_OPEN, DISPATCH (R85). -/
def openRun (q : RunRequest) (s : State) : State :=
  let s := s.onRun fun r => { r with counter := r.counter + 1 }
  let id : RunId := ⟨s.ownSlot, s.run.counter⟩
  enterDispatch id q.kind q.dir q.loopStop (originate (.runOpen id q.kind q.dir q.loopStop) s)

def requestRun (s : State) : State :=
  match s.runRequest with
  | none => answer .outOfRange s
  | some q =>
    match s.requestRefusal q.dir with
    | some r => answer r s
    | none => openRun q s

/-! ### ADD_HALT (R91) -/

/-- The result of ADD_HALT for a position (R91). -/
def State.haltResult (s : State) (pos : Int) : Result :=
  if s.configFault || s.inState .idle then .wrongState
  else if s.inState .tripped then .tripped
  else if !s.inState .dispatch then .tooLate
  else if s.isKind .service then .wrongState
  else if s.noPosition then .noPosition
  else if !s.haltTest pos then .outOfRange
  else if s.haltFits pos then .done else .outOfRange

def addHalt (s : State) : State :=
  let pos := s.param 0
  let r := s.haltResult pos
  let s := answer r s
  if r = .done then originateRun (fun id => .addStop id pos) (addHaltEntry pos s) else s

/-! ### CALL_LOOP (R93, R116) -/

/-- The states in which CALL_LOOP acts through the designator. -/
def State.loopByDesignator (s : State) : Bool := s.inMotion || s.inState .held || s.inState .dwell

def State.loopReached (s : State) : Bool :=
  s.run.run.stops.any fun e => e.kind == .loop && e.status == .reached

/-- The result of CALL_LOOP; none where it stays BUSY (R93, R116). -/
def State.loopResult (s : State) : Option Result :=
  if s.configFault || s.inState .idle then some .wrongState
  else if s.inState .tripped then some .tripped
  else if s.loopByDesignator then
    if s.isKind .inspection then some .wrongState
    else if s.run.run.decision = .notApplicable ∨ s.loopReached = true then some .nothingToDo
    else if s.run.run.decision = .pass then some .tooLate
    else if s.run.run.decision = .stop then some .done
    else none
  else if !s.inState .dispatch then some .tooLate
  else if s.isKind .inspection then some .wrongState
  else if s.noPosition then some .noPosition
  else if !(s.runDir.any s.loopAhead) then some .nothingToDo
  else some .done

def callLoop (s : State) : State :=
  match s.loopResult with
  | none => originateRun .loopCall (s.onRecord fun r => { r with designator := true })
  | some r =>
    let s := answer r s
    if r = .done ∧ s.inState .dispatch = true then originateRun .loopCall (restartDispatch (addLoopEntry s)) else s

/-! ### HOLD, RELEASE, ABORT (R146, R147, R157) -/

/-- The own slot enters; a flag already set still sends one HOLD frame (R146). -/
def enterOwnHold (s : State) : State :=
  enterHold s.ownSlot false (if s.holdFlag then originateRun .hold s else s)

def holdLine (s : State) : State :=
  if s.configFault || s.inState .idle then answer .wrongState s
  else if s.inState .tripped then answer .tripped s
  else if s.inState .arrived then answer .nothingToDo s
  else if s.inMotion then enterOwnHold s
  else enterOwnHold (answer .done s)

def releaseLine (s : State) : State :=
  if s.configFault || s.inState .idle then answer .wrongState s
  else if s.inState .tripped then answer .tripped s
  else if s.holdsSlot s.ownSlot then removeHold s.ownSlot (answer .done s)
  else answer .nothingToDo s

def abortRun (s : State) : State :=
  if s.configFault || s.inState .idle then answer .wrongState s
  else if s.inState .tripped then answer .tripped s
  else takeAbort (originateRun .abort (s.onRecord fun r => { r with abortPending := true, abortOrigin := true }))

/-! ### CONFIRM_READY (R96) -/

def confirmReady (s : State) : State :=
  if !s.isCar then answer .wrongRole s
  else if s.configFault || !(s.inState .dispatch || s.inState .awaitGo || s.inState .dwell) then answer .wrongState s
  else if !s.pins.doorClosed then answer .wrongState s
  else (answer .done s).onCar fun c => { c with ready := true }

/-! ### Timers (R89, R101, R103) -/

def dispatchExpires (s : State) : State :=
  if s.inState .dispatch && s.run.run.dispatchTimer.isSome then closeWindow s else s

def consentExpires (s : State) : State :=
  if s.inState .awaitGo && s.run.run.consentTimer.isSome then closeByDrive s.timeoutCause s else s

def goGuardExpires (s : State) : State :=
  if s.inState .awaitGo && s.run.run.goGuardTimer.isSome then endRun .noDrive s.ownSlot s else s

/-! ### Meanings -/

def execRequestRun (s : State) : Host.Outcome State Fault Refusal :=
  event s fun s => requestRun (startCommand .requestRun s)
def execAddHalt (s : State) : Host.Outcome State Fault Refusal := event s fun s => addHalt (startCommand .addHalt s)
def execCallLoop (s : State) : Host.Outcome State Fault Refusal := event s fun s => callLoop (startCommand .callLoop s)
def execHold (s : State) : Host.Outcome State Fault Refusal := event s fun s => holdLine (startCommand .hold s)
def execRelease (s : State) : Host.Outcome State Fault Refusal := event s fun s => releaseLine (startCommand .release s)
def execAbort (s : State) : Host.Outcome State Fault Refusal := event s fun s => abortRun (startCommand .abort s)
def execConfirmReady (s : State) : Host.Outcome State Fault Refusal :=
  event s fun s => confirmReady (startCommand .confirmReady s)
def execDispatchTimerExpiry (s : State) : Host.Outcome State Fault Refusal := event s dispatchExpires
def execConsentTimerExpiry (s : State) : Host.Outcome State Fault Refusal := event s consentExpires
def execGoGuardTimerExpiry (s : State) : Host.Outcome State Fault Refusal := event s goGuardExpires

end Sys2Proof.Machine
end

