-- ==== Sys2Proof/Machine/OutputStage.lean ====
section
/-! DEFINITION. The output stage's inputs, timers and commands (R162, R167, R170, R174). -/

namespace Sys2Proof.Machine

/-! ### Inputs -/

/-- The door-closed input changes: going inactive clears the ready latch, and trips in MOVING and STOPPING (R96, R170). -/
def doorChanges (closed : Bool) (s : State) : State :=
  if s.isCar && s.pins.doorClosed != closed then
    let s := s.onPins fun p => { p with doorClosed := closed }
    if closed then s
    else
      let s := s.onCar fun c => { c with ready := false }
      if s.inMotion then latchTrip .door s else s
  else s

def setStagePin (st : Stage) (applied : Bool) (p : PlantPins) : PlantPins :=
  match st with
  | .w1 => { p with stage1 := applied }
  | .w2 => { p with stage2 := applied }
  | .w4 => { p with stage4 := applied }
  | .w8 => { p with stage8 := applied }

/-- A stage feedback changes; the check follows with the outputs (R162). -/
def stageFeedback (st : Stage) (applied : Bool) (s : State) : State :=
  if s.isDrive then s.onPins (setStagePin st applied) else s

def emergencyFeedback (applied : Bool) (s : State) : State :=
  if s.isDrive then s.onPins fun p => { p with brakeFeedback := applied } else s

/-- The emergency-stop input goes active (R170). -/
def emergencyStopActive (s : State) : State :=
  if s.pins.emergencyStop then s else latchTrip .localTrip (s.onPins fun p => { p with emergencyStop := true })

def emergencyStopReleased (s : State) : State := s.onPins fun p => { p with emergencyStop := false }

/-! ### Check timers (R162, R167) -/

def Brakes.setUnit (b : Brakes) (st : Stage) (u : StageUnit) : Brakes :=
  match st with
  | .w1 => { b with stage1 := u }
  | .w2 => { b with stage2 := u }
  | .w4 => { b with stage4 := u }
  | .w8 => { b with stage8 := u }

/-- A stage becomes FAILED (R162). -/
def stageFails (st : Stage) (s : State) : State :=
  let u := s.brakes.unit st
  if s.isDrive && u.timer.isSome && !u.failed then
    pushEvent .stageFailed s.ownSlot s.driveBlock (stageWeight st : Int) (s.onBrakes fun b => b.setUnit st ⟨true, none⟩)
  else s

/-- The emergency brake's check timer runs out (R167). -/
def emergencyCheckFails (s : State) : State :=
  if s.brakes.ebTimer.isSome then latchTrip .brakeFb (s.onBrakes fun b => { b with ebFault := true, ebTimer := none })
  else s

/-! ### TRIP and RESET_TRIP (R170, R174) -/

def tripCommand (s : State) : State := latchTrip .localTrip (answer .done s)

/-- The result of RESET_TRIP with a latched cause (R174). -/
def State.resetResult (s : State) (c : TripCause) : Result :=
  if c.latched then .refusedLatched
  else if s.pins.emergencyStop then .wrongState
  else if !s.lineStandstill then .refusedMoving else .done

/-- The request kept for this moment sets the latch that the reset has cleared (R174). -/
def latchKept (s : State) : State :=
  match s.trips.kept with
  | some k => latchTrip k (s.onTrips fun t => { t with kept := none })
  | none => s

/-- The latch clears: STATUS, TRIP_CLEARED, a request of the same moment, evaluation, and IDLE where no origin is left (R172, R174,
R140). DESIGN CHOICE (log 67): at a DRIVE without origins the evaluation of R174 forms the parking level while the run state is still
TRIPPED, so a PARK_DEGRADED of it carries the ended run's id; where the last origin ends TRIPPED (`leaveOrigin`) it carries none. -/
def clearLatch (c : TripCause) (s : State) : State :=
  let s := announce (s.onTrips fun t => { t with latch := none })
  exitTripped (reevaluate (latchKept (pushEvent .tripCleared s.ownSlot none (c.code : Int) s)))

def resetTrip (s : State) : State :=
  match s.trips.latch with
  | none => answer .nothingToDo s
  | some c =>
    let r := s.resetResult c
    let s := answer r s
    if r = .done then clearLatch c s else s

/-! ### Meanings -/

def execDoorClosedChange (closed : Bool) (s : State) : Host.Outcome State Fault Refusal := event s (doorChanges closed)
def execStageFeedbackChange (st : Stage) (applied : Bool) (s : State) : Host.Outcome State Fault Refusal :=
  event s (stageFeedback st applied)
def execStageCheckTimerExpiry (st : Stage) (s : State) : Host.Outcome State Fault Refusal := event s (stageFails st)
def execEmergencyBrakeFeedbackChange (applied : Bool) (s : State) : Host.Outcome State Fault Refusal :=
  event s (emergencyFeedback applied)
def execEmergencyBrakeTimerExpiry (s : State) : Host.Outcome State Fault Refusal := event s emergencyCheckFails
def execEmergencyStopInput (s : State) : Host.Outcome State Fault Refusal := event s emergencyStopActive
def execEmergencyStopInactive (s : State) : Host.Outcome State Fault Refusal := event s emergencyStopReleased
def execTrip (s : State) : Host.Outcome State Fault Refusal := event s fun s => tripCommand (startCommand .trip s)
def execResetTrip (s : State) : Host.Outcome State Fault Refusal :=
  event s fun s => resetTrip (startCommand .resetTrip s)

end Sys2Proof.Machine
end

