-- ==== Sys2Proof/Machine/ProfileTable.lean ====
section
/-! DEFINITION. The commands of the peer table, position unit and profile table: SET_LOAD (R77), SET_POSITION (R28),
SET_RESTRICTION (R16), UNPROVE_ALL (R12). -/

namespace Sys2Proof.Machine

/-- DONE, or DONE_CLAMPED where clamping changed a value. -/
def clampResult (clamped : Bool) : Result := if clamped then .doneClamped else .done

/-- SET_LOAD (R77). -/
def setLoad (s : State) : State :=
  let v := s.param 0
  let c := clampTo 0 s.params.maxLoad v
  if !s.isCar then answer .wrongRole s
  else if s.configFault then answer .wrongState s
  else (answer (clampResult (c != v)) s).onCar fun k =>
    { k with load := c.toNat, loadFresh := true, loadTimer := startTimer s.params.tLoad }

/-- SET_POSITION (R28). -/
def setPosition (s : State) : State :=
  let v := s.param 0
  let c := clampTo 0 s.params.L v
  if !s.isDrive then answer .wrongRole s
  else if s.configFault || !s.inState .idle then answer .wrongState s
  else if s.pins.valley || s.pins.summit || s.pos.quality == .confirmed then answer .nothingToDo s
  else recompute (handEstimate (snap c .unconfirmed (answer (clampResult (c != v)) s)))

/-- What SET_RESTRICTION makes of its parameters: the new own entry and whether clamping changed a value; none for
OUT_OF_RANGE (R16). -/
def restrictionRequest (p : Params) (n : Nat) (summit count complement speed : Int) :
    Option (Option Restriction × Bool) :=
  if (summit = 1 ∨ summit = 2) ∧ (complement = 0 ∨ complement = 1) then
    let low := max 0 count
    if low = 0 ∧ complement = 0 then some (none, low != count)
    else
      let c := min low n
      let v := clampTo p.vCreep p.vMax speed
      some (some ⟨summit == 2, c, complement == 1, v⟩, c != count || v != speed)
  else none

/-- SET_RESTRICTION (R16). DESIGN CHOICE (log 34): in CONFIG_FAULT the result is WRONG_STATE, whatever end and complement are. -/
def setRestriction (s : State) : State :=
  if s.configFault then answer .wrongState s
  else match restrictionRequest s.params s.blocks.length (s.param 0) (s.param 1) (s.param 2) (s.param 3) with
  | none => answer .outOfRange s
  | some (entry, clamped) =>
    (answer (clampResult clamped) s).onProfile fun p =>
      { p with restrictions := setAt p.restrictions s.ownSlot entry }

/-- UNPROVE_ALL (R12). -/
def unproveCommand (s : State) : State := unproveEvery 7 s.ownSlot (answer .done s)

/-! ### Meanings -/

def execSetLoad (s : State) : Host.Outcome State Fault Refusal := event s fun s => setLoad (startCommand .setLoad s)
def execSetPosition (s : State) : Host.Outcome State Fault Refusal :=
  event s fun s => setPosition (startCommand .setPosition s)
def execSetRestriction (s : State) : Host.Outcome State Fault Refusal :=
  event s fun s => setRestriction (startCommand .setRestriction s)
def execUnproveAll (s : State) : Host.Outcome State Fault Refusal :=
  event s fun s => unproveCommand (startCommand .unproveAll s)

end Sys2Proof.Machine
end

