-- ==== Sys2Proof/Machine/StationPort.lean ====
section
/-! DEFINITION. The station port: parameter words, unknown commands, reads and views (chapter 10, R198). -/

namespace Sys2Proof.Machine

/-! ### Writes -/

/-- k words into parameter words 1 to k (R178). -/
def writeParams (ws : List Word32) (s : State) : State :=
  s.onPort fun p =>
    let at' (i : Nat) (old : Word32) : Word32 := ws.getD i old
    let o := p.params
    { p with params :=
        #v[at' 0 (o.get 0), at' 1 (o.get 1), at' 2 (o.get 2), at' 3 (o.get 3), at' 4 (o.get 4), at' 5 (o.get 5)] }

/-- A code that names no command (R179). -/
def unknownCode (code : Byte) (s : State) : State := answer .outOfRange (takeSlot code s)

/-! ### Run view (R184, R198) -/

/-- A word that another role's stations show as none. -/
def wordIf (b : Bool) (w : Word32) : Word32 := if b then w else noneWord

/-- The four words of a stop list place; an absent entry's fields are none (log 30). -/
def stopWords (e : Option StopEntry) : List Word32 :=
  match e with
  | some e => [intWord e.pos, natWord e.kind.code, intWord e.allowance, natWord e.status.code]
  | none => [noneWord, noneWord, noneWord, noneWord]

def stopListWords (stops : List StopEntry) : List Word32 :=
  (List.range 8).flatMap fun i => stopWords (stops[i]?)

/-- A set of slots as a mask in two words. -/
def slotMaskWords (f : Slot → Bool) : List Word32 := maskWords (BitVec.ofNat 64 (maskOf f))

/-- The stop target the view shows: at the DRIVE as the latest computation left it (R107), elsewhere the one in use in MOVING,
STOPPING and HELD (log 22). -/
def State.shownStop (s : State) : Option Int :=
  if s.isDrive then s.ref.shown.map (·.target)
  else if s.inMotion || s.inState .held then s.stopInUse.map (·.1) else none
def State.shownAllowance (s : State) : Option Int :=
  if s.inMotion || s.inState .held then s.stopInUse.map (·.2) else none

/-- The block containing x_sup, where it exists. -/
def State.viewBlock (s : State) : Option Nat := s.supBlock

def viewGuaranteed (s : State) (d : Dir) : Word32 := optWord (fun k => intWord (s.guaranteed d k)) s.viewBlock
def viewMark (s : State) (d : Dir) : Word32 :=
  optWord (fun k => flagWord (decide (s.guaranteed d k < s.params.aFloor))) s.viewBlock

def stationWords (s : State) : List Word32 :=
  [natWord s.ownSlot.val, natWord s.straps.roleCode.val, flagWord s.listening, flagWord s.configFault,
   flagWord s.rx.slotConflict, flagWord s.peerCtl.roleConflict, flagWord (!s.line1.up), flagWord (!s.line2.up)]

/-- The words of the run record in the run view (R184, R198). DESIGN CHOICE (log 63): while the rejoined flag is set the stop count is the
adopted one (R123), which the list's own count of entries (R82) need not equal. -/
def runWords (s : State) : List Word32 :=
  let r := s.run.run
  [natWord s.run.state.code, optWord (fun h => runIdWord h.id) r.hdr, optWord (fun h => natWord h.kind.code) r.hdr,
   optWord (fun h => natWord h.dir.code) r.hdr, natWord r.leg, natWord s.stopCount, flagWord r.rejoined]
  ++ stopListWords r.stops ++ [flagWord r.designator, natWord r.decision.code, flagWord r.abortPending]

def consentWords (s : State) : List Word32 :=
  [optWord natWord s.consent] ++ slotMaskWords s.holdsSlot
  ++ slotMaskWords (fun i => s.run.run.holds.get i == some true)
  ++ [flagWord s.holdFlag, wordIf s.isCar (flagWord s.car.ready), wordIf s.isCar (flagWord s.pins.doorClosed),
      wordIf s.isCar (flagWord s.outputs.doorRelease)]

def targetWords (s : State) : List Word32 :=
  let r := s.run.run
  [optWord intWord s.shownStop, optWord intWord s.shownAllowance, optWord intWord r.holdTarget,
   optWord intWord r.berth, flagWord r.berthFrozen, flagWord r.misaligned]

def positionWords (s : State) : List Word32 :=
  [wordIf s.hasEstimate (intWord s.reportedX), wordIf s.hasEstimate (intWord s.pos.v),
   wordIf s.hasEstimate (natWord s.pos.quality.code), wordIf s.hasEstimate (flagWord s.pos.standstill),
   flagWord s.lineStandstill, flagWord s.noPosition, optWord (fun e => intWord e.1) s.sup.est,
   optWord (fun e => intWord e.2) s.sup.est, intWord s.sup.spread]

def envelopeWords (s : State) : List Word32 :=
  let b := s.env.binding
  [natWord s.env.level.code, natWord s.env.demand.code, wordIf s.isDrive (natWord s.combinedDemand.code),
   optWord (fun t => intWord t.position) b, optWord (fun t => intWord t.speed) b,
   optWord (fun t => intWord t.distance) b, optWord (fun t => intWord t.stopping) b,
   optWord (fun t => intWord t.decel) b,
   wordIf (!s.configFault) (intWord s.serviceDecel), viewGuaranteed s .up, viewGuaranteed s .down, viewMark s .up,
   viewMark s .down, flagWord (s.loadInUse .carA).isSome, flagWord (s.loadInUse .carB).isSome]

/-- The words of the DRIVE's reference in the run view. DESIGN CHOICE (log 65): v_ref is shown as it stands at the read (R184), where R107
has set it to 0 or reduced it since the latest computation too; remaining distance, a_pl and v_target are those of that computation. -/
def referenceWords (s : State) : List Word32 :=
  let c := s.ref.shown
  [wordIf s.isDrive (intWord s.ref.vref), wordIf s.isDrive (optWord (fun t => intWord t.remaining) c),
   wordIf s.isDrive (optWord (fun t => intWord t.aPl) c), wordIf s.isDrive (optWord (fun t => intWord t.vTarget) c)]

/-- The 93 words of the run view. -/
def runView (s : State) : List Word32 :=
  stationWords s ++ runWords s ++ consentWords s ++ targetWords s ++ positionWords s ++ envelopeWords s
  ++ referenceWords s

/-! ### Peer record view (R59, R60, R31, R198) -/

/-- The run fields of a STATUS, none in IDLE and in TRIPPED without a run (R70). A received STATUS without a run shows the zeros it
was sent with (log 18). -/
def statusRunWords (st : Status) : List Word32 :=
  let held := st.runState ≠ .idle ∧ st.runId.isSome = true
  [wordIf held (optWord runIdWord st.runId), wordIf held (natWord st.kind.code), wordIf held (natWord st.dir.code),
   natWord st.runState.code, wordIf held (natWord st.leg), wordIf held (natWord st.stopCount),
   wordIf held (natWord st.decision.code), wordIf held (intWord st.target)]

def restrictionWords (r : Option Restriction) : List Word32 :=
  [optWord (fun e => natWord (if e.summit then 2 else 1)) r, optWord (fun e => intWord e.count) r,
   optWord (fun e => flagWord e.complement) r, optWord (fun e => intWord e.speed) r]

/-- Words 4 to 35 from the contents of a STATUS. -/
def statusWords (st : Status) : List Word32 :=
  [natWord st.roleCode.val, natWord (st.profileId.1.toNat * 256 + st.profileId.2.toNat)] ++ statusRunWords st
  ++ [optWord natWord st.consent, flagWord st.hold, flagWord st.trip.isSome, optWord (fun c => natWord c.code) st.trip,
      intWord st.x, intWord st.v, natWord st.quality.code, flagWord st.standstill, natWord st.demand.code,
      optWord natWord st.lastMatched, optWord natWord st.faultBlock, natWord st.load, flagWord st.loadFresh,
      flagWord st.ready, flagWord st.doorClosed]
  ++ maskWords st.proof ++ restrictionWords st.restriction ++ [flagWord st.fault]

/-- The 36 words of a peer record; the own slot shows the own record (R60). -/
def peerView (i : Slot) (s : State) : List Word32 :=
  if i = s.ownSlot then
    [natWord RecState.present.code, natWord Exclusion.none.code, s.clock - s.own.formedAt]
    ++ statusWords s.own.status ++ [wordIf s.isCar (intWord s.marker.drift)]
  else
    let r := s.peer i
    [natWord r.state.code, natWord r.exclusion.code, wordIf (r.state != .absent) (s.clock - r.arrival)]
    ++ ((r.contents.map statusWords).getD (List.replicate 32 noneWord)) ++ [noneWord]

/-! ### Block, stage and trip views (R6, R19, R131, R163, R166, R175, R198) -/

/-- The 18 words of a block. -/
def blockView (k : Nat) (s : State) : List Word32 :=
  let b := s.block k
  let decel (d : Dir) : List Word32 :=
    [wordIf s.isDrive (intWord (s.guaranteed d k)),
     wordIf s.isDrive (flagWord (decide (s.guaranteed d k < s.params.aFloor)))]
  [intWord b.length, intWord b.vLim, intWord b.sA, intWord b.sB, intWord b.balance, natWord b.markerA,
   natWord b.markerB, flagWord b.isLoop, flagWord b.noHalt, intWord (s.startOf k), intWord (s.endOf k),
   flagWord (s.proven k), intWord (s.limit k), wordIf s.isDrive (intWord (s.driveLimit k))]
  ++ decel .up ++ decel .down

def outputOfStage (o : Outputs) : Stage → Bool
  | .w1 => o.stage1 | .w2 => o.stage2 | .w4 => o.stage4 | .w8 => o.stage8

/-- The 24 words of the stage view; every word none at a station other than the DRIVE. -/
def stageView (s : State) : List Word32 :=
  if s.isDrive then
    (allStages.flatMap fun st =>
      let u := s.brakes.unit st
      [natWord (stageWeight st), flagWord (outputOfStage s.outputs st), flagWord (pinOfStage s.pins st),
       flagWord u.failed, flagWord u.timer.isSome])
    ++ [natWord s.brakes.highest, optWord intWord s.brakes.parkRequested,
        optWord (fun r => natWord (s.brakes.appliedLevel r)) s.brakes.parkRequested, flagWord s.brakes.parkDegraded]
  else List.replicate 24 noneWord

/-- The 19 words of the trip view. -/
def tripView (s : State) : List Word32 :=
  let causeOr0 (c : Option TripCause) : Word32 := natWord ((c.map TripCause.code).getD 0)
  let chain := s.isRole .loop || s.isRole .wayside
  [flagWord s.trips.latch.isSome, causeOr0 s.trips.latch,
   optWord (fun c => natWord (if c.latched then 2 else 1)) s.trips.latch]
  ++ slots.map (fun i => causeOr0 (s.trips.origins.get i))
  ++ [flagWord s.pins.emergencyStop, flagWord s.tripAsserted, wordIf s.isCar (flagWord s.outputs.trackBrake),
      wordIf chain (flagWord s.outputs.safetyChain), wordIf s.isDrive (flagWord s.outputs.emergencyBrake),
      wordIf s.isDrive (flagWord s.pins.brakeFeedback), wordIf s.isDrive (flagWord s.brakes.ebFault),
      wordIf s.isDrive (flagWord s.brakes.ebTimer.isSome)]

/-- The length of each view; a selector that is not listed has no view words (R183, log 30). -/
def viewLength (selector : Nat) : Nat :=
  match selector with
  | 1 => 93 | 2 => 36 | 3 => 18 | 4 => 24 | 5 => 19 | _ => 0

/-- The view of a selector and index, when the status word is DONE (R183). -/
def viewOf (selector index : Nat) (s : State) : Option (List Word32) :=
  match selector with
  | 1 => some (runView s)
  | 2 => if h : index < 8 then some (peerView ⟨index, h⟩ s) else none
  | 3 => if s.configFault = false ∧ index < s.blocks.length then some (blockView index s) else none
  | 4 => some (stageView s)
  | 5 => some (tripView s)
  | _ => none

/-- The reply of READ_VIEW: status word and view (R183). -/
def viewReply (selectorWord : Word32) (s : State) : List Word32 :=
  let selector := selectorWord.toNat / 16777216
  match viewOf selector (selectorWord.toNat % 16777216) s with
  | some ws => natWord Result.done.code :: ws
  | none => natWord Result.outOfRange.code :: List.replicate (viewLength selector) 0

/-! ### Reads (R177, R182, R186) -/

def setReply (r : Reply) (s : State) : State := s.onPort fun p => { p with reply := some r }

def replyResult (s : State) : State := setReply ⟨.result, [resultWord s.port], true⟩ s

/-- The oldest record, or the empty record (R186). -/
def replyEvent (s : State) : State :=
  match s.port.queue with
  | e :: _ => setReply ⟨.event, eventWords e, true⟩ s
  | [] => setReply ⟨.event, [0, 0, 0, 0], false⟩ s

def replyView (selector : Word32) (s : State) : State := setReply ⟨.view, viewReply selector s, false⟩ s

/-- The bits the part places on data out for its reply, as they are clocked (R177): a read that ends early has returned the first of
them. Data out carries no bit of a reply before it is formed and after its last one (log 17). -/
def Port.dataOut (p : Port) : List Bool :=
  match p.reply with
  | some r => portBits r.words
  | none => []

/-- The effect of a whole reply at select release: unread cleared, or the record removed and OVERFLOW cleared with the last one
(R177, R182, R185, R186). -/
def Port.endRead (p : Port) (r : Reply) : Port :=
  match r.kind with
  | .result => { p with unread := false }
  | .event => { p with queue := p.queue.drop 1, overflow := p.overflow && decide (1 < p.queue.length) }
  | .view => p

/-- Select is released (R177). DESIGN CHOICE (log 66): whole words clocked past the reply's last one are no words from the station
computer, so the read takes its effect there too. -/
def endTransfer (bits : Nat) (s : State) : State :=
  match s.port.reply with
  | some r =>
    let whole := bits % 32 == 0 && decide (32 * r.words.length ≤ bits)
    let s := s.onPort fun p => { p with reply := none }
    if whole && r.live then s.onPort fun p => p.endRead r else s
  | none => s

/-! ### Meanings -/

/-- A read or a parameter write: nothing but the port and ATTN follows it. -/
def portEvent (s : State) (f : State → State) : Host.Outcome State Fault Refusal :=
  quietEvent s fun s =>
    let s := f s
    s.onOutputs fun o => { o with attn := s.attnNow }

/-- A transfer with no word or with more than six is ignored (R177). -/
def execWriteParam (words : List Word32) (s : State) : Host.Outcome State Fault Refusal :=
  if 1 ≤ words.length ∧ words.length ≤ 6 then portEvent s (writeParams words) else .next s
def execUnknownCommand (code : Byte) (s : State) : Host.Outcome State Fault Refusal := event s (unknownCode code)
def execReadResult (s : State) : Host.Outcome State Fault Refusal := portEvent s replyResult
def execReadEvent (s : State) : Host.Outcome State Fault Refusal := portEvent s replyEvent
def execReadView (selector : Word32) (s : State) : Host.Outcome State Fault Refusal := portEvent s (replyView selector)
def execReadTransferEnd (bits : Nat) (s : State) : Host.Outcome State Fault Refusal := portEvent s (endTransfer bits)

end Sys2Proof.Machine
end

