-- ==== Sys2Proof/Machine/Dispatch.lean ====
section
/-! DEFINITION. One arm per command. -/

namespace Sys2Proof.Machine

def exec (i : Instr) (s : State) : Host.Outcome State Fault Refusal :=
  match i with
  | .resetAssert => Sys2Proof.Machine.execResetAssert s
  | .startUp slotStraps roleStraps => Sys2Proof.Machine.execStartUp slotStraps roleStraps s
  | .startUpComplete image pins => Sys2Proof.Machine.execStartUpComplete image pins s
  | .listenPeriodExpiry => Sys2Proof.Machine.execListenPeriodExpiry s
  | .sampleTimerExpiry count => Sys2Proof.Machine.execSampleTimerExpiry count s
  | .standstillTimerExpiry => Sys2Proof.Machine.execStandstillTimerExpiry s
  | .referenceSwitchActive sw count => Sys2Proof.Machine.execReferenceSwitchActive sw count s
  | .setPosition => Sys2Proof.Machine.execSetPosition s
  | .markerArrival code count => Sys2Proof.Machine.execMarkerArrival code count s
  | .detectorActive d => Sys2Proof.Machine.execDetectorActive d s
  | .detectorInactive d => Sys2Proof.Machine.execDetectorInactive d s
  | .stuckTimerExpiry d => Sys2Proof.Machine.execStuckTimerExpiry d s
  | .recomputationTimerExpiry => Sys2Proof.Machine.execRecomputationTimerExpiry s
  | .frameArrival line bytes delimited => Sys2Proof.Machine.execFrameArrival line bytes delimited s
  | .lineIdle line => Sys2Proof.Machine.execLineIdle line s
  | .txStart line => Sys2Proof.Machine.execTxStart line s
  | .txComplete line => Sys2Proof.Machine.execTxComplete line s
  | .arbitrationLost line => Sys2Proof.Machine.execArbitrationLost line s
  | .readbackDisagreement line => Sys2Proof.Machine.execReadbackDisagreement line s
  | .silenceTimerExpiry line => Sys2Proof.Machine.execSilenceTimerExpiry line s
  | .staleTimerExpiry slot => Sys2Proof.Machine.execStaleTimerExpiry slot s
  | .lostTimerExpiry slot => Sys2Proof.Machine.execLostTimerExpiry slot s
  | .statusTimerExpiry => Sys2Proof.Machine.execStatusTimerExpiry s
  | .loadTimerExpiry => Sys2Proof.Machine.execLoadTimerExpiry s
  | .setLoad => Sys2Proof.Machine.execSetLoad s
  | .requestRun => Sys2Proof.Machine.execRequestRun s
  | .addHalt => Sys2Proof.Machine.execAddHalt s
  | .callLoop => Sys2Proof.Machine.execCallLoop s
  | .hold => Sys2Proof.Machine.execHold s
  | .release => Sys2Proof.Machine.execRelease s
  | .abort => Sys2Proof.Machine.execAbort s
  | .confirmReady => Sys2Proof.Machine.execConfirmReady s
  | .dispatchTimerExpiry => Sys2Proof.Machine.execDispatchTimerExpiry s
  | .consentTimerExpiry => Sys2Proof.Machine.execConsentTimerExpiry s
  | .goGuardTimerExpiry => Sys2Proof.Machine.execGoGuardTimerExpiry s
  | .doorClosedChange closed => Sys2Proof.Machine.execDoorClosedChange closed s
  | .stageFeedbackChange stage applied => Sys2Proof.Machine.execStageFeedbackChange stage applied s
  | .stageCheckTimerExpiry stage => Sys2Proof.Machine.execStageCheckTimerExpiry stage s
  | .emergencyBrakeFeedbackChange applied => Sys2Proof.Machine.execEmergencyBrakeFeedbackChange applied s
  | .emergencyBrakeTimerExpiry => Sys2Proof.Machine.execEmergencyBrakeTimerExpiry s
  | .emergencyStopInput => Sys2Proof.Machine.execEmergencyStopInput s
  | .trip => Sys2Proof.Machine.execTrip s
  | .resetTrip => Sys2Proof.Machine.execResetTrip s
  | .unproveAll => Sys2Proof.Machine.execUnproveAll s
  | .setRestriction => Sys2Proof.Machine.execSetRestriction s
  | .writeParam words => Sys2Proof.Machine.execWriteParam words s
  | .unknownCommand code => Sys2Proof.Machine.execUnknownCommand code s
  | .readResult => Sys2Proof.Machine.execReadResult s
  | .readEvent => Sys2Proof.Machine.execReadEvent s
  | .readView selector => Sys2Proof.Machine.execReadView selector s
  | .readTransferEnd bits => Sys2Proof.Machine.execReadTransferEnd bits s
  | .referenceSwitchInactive sw => Sys2Proof.Machine.execReferenceSwitchInactive sw s
  | .emergencyStopInactive => Sys2Proof.Machine.execEmergencyStopInactive s
  | .lineStartBit line => Sys2Proof.Machine.execLineStartBit line s

end Sys2Proof.Machine
end

