-- ==== Sys2Proof/Machine/Step.lean ====
section
/-! DEFINITION. One step: the command at the front of the queue, or one millisecond on an empty queue (log 1). -/

namespace Sys2Proof.Machine

/-- One step of the part. -/
def step (s : State) : Host.Outcome State Fault Refusal :=
  match s.pending with
  | c :: rest => exec c { s with pending := rest }
  | [] => .next (tick s)

/-- The command a word spells, put at the front of the queue. -/
def State.withFetchWord (s : State) (nbits w : Nat) : State :=
  match decodeTableWord nbits w with
  | some c => { s with pending := c :: s.pending }
  | none => s

/-- A transfer at the station port, by the bits the station computer sends in it: the command it spells joins the queue, and a
transfer that spells none is ignored (R177). -/
def State.withTransfer (s : State) (bits : List Bool) : State :=
  match decodeTransfer bits with
  | some c => { s with pending := s.pending ++ [c] }
  | none => s

/-- Levels on a station line, from a start bit on: the FRAME_ARRIVAL they bring joins the queue (R42). -/
def State.withLevels (s : State) (l : LineId) (levels : List Bool) : State :=
  { s with pending := s.pending ++ [arrivalOf l levels] }

end Sys2Proof.Machine
end

