-- ==== Sys2Proof/Safety.lean ====
section
/-! DEFINITION. What counts as a sound state: the capacities and exclusions the manual states of every moment, and what no step
may break; and what the reactions that follow an event leave as the event left it. -/

namespace Sys2Proof.Machine

/-! ### Sound states -/

/-- The stores are within their capacities: event queue 16 (R185), transmit queues 8 (R46), sample ring 4 (R22). -/
def State.withinCapacity (s : State) : Prop :=
  s.port.queue.length ≤ 16 ∧ s.line1.queue.length ≤ 8 ∧ s.line2.queue.length ≤ 8 ∧ s.pos.ring.length ≤ 4

/-- The two lines are not both DOWN, and the silence timer of a DOWN line does not run (R56, R57). -/
def State.linesSound (s : State) : Prop :=
  (s.line1.up = true ∨ s.line2.up = true)
  ∧ (s.line1.up = false → timerRuns s.line1.silence = false) ∧ (s.line2.up = false → timerRuns s.line2.silence = false)

/-- The trip origin set does not contain the own slot (R171); before operation it is empty. -/
def State.originsSound (s : State) : Prop :=
  s.trips.origins.get s.ownSlot = none ∧ (s.phase ≠ .running → ∀ i, s.trips.origins.get i = none)

/-- The hold set is empty in IDLE and TRIPPED (R144). -/
def State.holdsSound (s : State) : Prop :=
  s.run.state = .idle ∨ s.run.state = .tripped → ∀ i, s.run.run.holds.get i = none

/-- The form of the stop list (R81): at most 8 entries, in strict run order (W being no negative number), the last one the TERMINAL
stop; a station that has opened or joined a run has one. -/
def State.stopsSound (s : State) : Prop :=
  s.run.run.stops.length ≤ 8
  ∧ (0 ≤ s.params.W → s.run.run.stops.Pairwise fun a b => 0 < s.dirSgn * (b.pos - a.pos))
  ∧ (∀ e, s.run.run.stops.getLast? = some e → e.kind = .terminal ∧ e.pos = s.terminal)
  ∧ (s.run.state ≠ .idle → s.run.state ≠ .tripped → s.run.run.stops ≠ [])

/-- The consent view is held at the DRIVE only and has an entry for PRESENT records alone (R80, R97). -/
def State.consentsSound (s : State) : Prop :=
  s.phase = .running → ∀ i, s.run.run.consents.get i ≠ none → s.isDrive = true ∧ (s.peer i).state = .present

/-- The sound states: every clause is stated by the manual of every moment of a station. -/
structure State.Sound (s : State) : Prop where
  capacity : s.withinCapacity
  lines : s.linesSound
  origins : s.originsSound
  holds : s.holdsSound
  stops : s.stopsSound
  consents : s.consentsSound

/-- A station is in TRIPPED exactly while its trip latch is set or its trip origin set is not empty (R169, R171, R172). -/
def State.tripSound (s : State) : Prop := s.run.state = .tripped ↔ s.tripAsserted = true

/-- The own demand is TRIP while the trip latch is set, and in CONFIG_FAULT (R140, R193). -/
def State.demandSound (s : State) : Prop :=
  (s.trips.latch.isSome = true → s.env.demand = .trip) ∧ (s.configFault = true → s.env.demand = .trip)

/-- v_ref is 0 in every run state but MOVING and STOPPING, while a trip is asserted, and while the combined demand is SERVICE or
TRIP, and its magnitude is at most the drive limit of x_D's block, a limit being no negative number (R107). -/
def State.referenceSound (s : State) : Prop :=
  s.phase = .running → s.isDrive = true →
    (s.inMotion = false ∨ s.tripAsserted = true ∨ s.braking = true → s.ref.vref = 0)
    ∧ (0 ≤ s.driveLimitHere → magnitude s.ref.vref ≤ s.driveLimitHere)

/-- The reference output is silent outside operation and at every role but the DRIVE; a word that the DRIVE's output carries is the signed
16-bit word of v_ref (R108, 11.5). -/
def State.referenceOutputSound (s : State) : Prop :=
  (s.phase ≠ .running ∨ s.isDrive = false → s.outputs.speedWord = none)
  ∧ (s.phase = .running → s.isDrive = true → ∀ w, s.outputs.speedWord = some w → w = signedField 16 s.ref.vref)

/-- What R69 has announced at once stands in the own record as it stands at the station: the STATUS formed last shows the run state, the
own hold flag, the trip flag and cause, the consent, the own demand and the loop decision of now. -/
def State.announcedSound (s : State) : Prop :=
  s.phase = .running →
    s.own.status.runState = s.run.state ∧ s.own.status.hold = s.holdFlag ∧ s.own.status.trip = s.trips.latch
    ∧ s.own.status.consentsTo = s.formStatus.consentsTo ∧ s.own.status.demand = s.env.demand
    ∧ s.own.status.decision = s.run.run.decision

/-- The marker monitor is disarmed, without expectation, in IDLE, ARRIVED and TRIPPED, and at every role but the cars (R31). -/
def State.monitorSound (s : State) : Prop :=
  s.phase = .running →
    (s.run.state = .idle ∨ s.run.state = .arrived ∨ s.run.state = .tripped → s.marker.armed = false ∧ s.marker.expected = none)
    ∧ (s.isCar = false → s.marker.armed = false)

/-- ATTN is asserted while a record is queued or a result unread (R187). -/
def State.attnSound (s : State) : Prop :=
  s.phase = .running → (s.outputs.attn = true ↔ s.port.queue ≠ [] ∨ s.port.unread = true)

/-- The trip outputs of the roles other than the DRIVE (R173). -/
def State.tripOutputsSound (s : State) : Prop :=
  s.phase = .running →
    (s.isRole .loop = true ∨ s.isRole .wayside = true →
      (s.outputs.safetyChain = true ↔ s.trips.latch ≠ none ∨ ∃ i, s.trips.origins.get i ≠ none))
    ∧ (s.isCar = true →
      (s.outputs.trackBrake = true ↔ s.trips.latch = some .recon ∨ s.trips.latch = some .overspeed
        ∨ ∃ i, s.trips.origins.get i = some .recon))

/-- The brake outputs of the DRIVE follow the cases of R164. -/
def State.brakesSound (s : State) : Prop :=
  s.phase = .running → s.isDrive = true →
    s.outputs.emergencyBrake = s.emergencyCommand ∧ ∀ st, outputOfStage s.outputs st = s.stageCommand st

/-- The emergency brake's check timer runs exactly while feedback and command disagree and it has not run out in that disagreement, and
agreement clears the fault flag (R167; that the timer waits for agreement after an expiry is log 20). -/
def State.emergencySound (s : State) : Prop :=
  s.phase = .running → s.isDrive = true →
    (s.brakes.ebTimer = none ↔ s.emergencyCommand = s.pins.brakeFeedback ∨ s.brakes.ebFault = true)
    ∧ (s.emergencyCommand = s.pins.brakeFeedback → s.brakes.ebFault = false)

/-- While parking applies at the DRIVE the parking level is the required one, and PARK_DEGRADED is set exactly where no achievable
level reaches it; otherwise no parking level stands (R165, R166). -/
def State.parkingSound (s : State) : Prop :=
  s.phase = .running → s.isDrive = true →
    (s.parkingApplies = true → s.brakes.parkRequested = some s.parkingRequired
      ∧ (s.brakes.parkDegraded = true ↔ (s.brakes.highest : Int) < s.parkingRequired))
    ∧ (s.parkingApplies = false → s.brakes.parkRequested = none)

/-- Level, own demand, binding target and trip latch are as an evaluation of the state leaves them (R127, R135, R139, R140). -/
def State.levelSound (s : State) : Prop :=
  s.phase = .running → s.configFault = false →
    s.env.level = s.stationLevel ∧ s.env.level.code ≤ s.env.demand.code ∧ (s.env.level = .trip → s.trips.latch ≠ none)
    ∧ s.env.binding = (bindingOf (s.targets.map s.assess)).map (·.2)

/-- No transition that a station makes on its own state is left to make: the holds and the standstill of R150, R153 and R154, and the
DRIVE's commitment, next leg, resume and close (R98, R114, R115, R155). -/
def State.restSound (s : State) : Prop :=
  s.phase = .running → s.tripAsserted = false →
    (s.run.state = .dispatch → s.holdsEmpty = true)
    ∧ (s.run.state = .moving → s.holdsEmpty = true ∧ s.run.run.abortPending = false)
    ∧ (s.run.state = .stopping → s.run.run.abortPending = false → s.holdsEmpty = false ∧ s.lineStandstill = false)
    ∧ (s.isDrive = true →
      (s.run.state = .awaitGo ∨ s.run.state = .dwell → s.commitReady = false)
      ∧ (s.run.state = .stopping → s.run.run.abortPending = true → s.pos.standstill = false)
      ∧ (s.run.state = .held → s.resumeReady = false)
      ∧ (s.run.state = .arrived → s.params.W < magnitude (s.terminal - s.pos.x)))

/-- Every output is at its safe level outside operation (R189). -/
def State.safeOutputs (s : State) : Prop := s.phase ≠ .running → s.outputs = Outputs.safe

/-- Under an invalid role code every plant output is at its safe level in operation too, and the reference output is silent (R193). -/
def State.invalidRoleSafe (s : State) : Prop :=
  s.phase = .running → s.role = none → s.outputs = { Outputs.safe with attn := s.outputs.attn }

/-- A line at rest whose estimates agree, with no trip asserted, under parameters and limits that are not negative: no reaction asks
for a trip here outside MOVING and STOPPING. -/
structure State.AtRest (s : State) : Prop where
  untripped : s.tripAsserted = false
  speed : s.vSup = 0
  entered : ∀ e ∈ s.sup.entered ++ s.enteredAll, e.v = 0
  agreed : (formSup none s.enteredAll).spread ≤ s.params.tolTrip
  still : 0 ≤ s.params.vStill
  margin : 0 ≤ s.params.dTrip
  line : 0 ≤ s.params.vMax ∧ 0 ≤ s.params.vInsp
  blocks : ∀ k, 0 ≤ (s.block k).vLim
  restrictions : ∀ i r, s.profile.restrictions.get i = some r → 0 ≤ r.speed

/-! ### What the reactions leave -/

/-- The part of the state that changes only as an event itself changes it, never by what follows the event: the evaluation, the
speed reference, parking, STATUS at once, the run state's own transitions, and the outputs. -/
structure Kept where
  pending : List Instr
  phase : Phase
  clock : Word32
  straps : Straps
  loader : Loader
  pins : PlantPins
  seqCounter : Byte
  seqMem : Vector (Option Byte) 8
  slotConflict : Bool
  idle : Bool × Bool
  up : Bool × Bool
  silence : Timer × Timer
  peers : Vector PeerRecord 8
  roleConflict : Bool
  recompTimer : Timer
  load : Nat × Bool × Timer
  pos : Pos
  det : Det
  restrictions : Vector (Option Restriction) 8
  runCounter : Byte
  origins : Vector (Option TripCause) 8
  params : Vector Word32 6
  code : Byte
  lastMatched : Option Nat
  drift : Int
  failed : Bool × Bool × Bool × Bool

def State.kept (s : State) : Kept where
  pending := s.pending
  phase := s.phase
  clock := s.clock
  straps := s.straps
  loader := s.loader
  pins := s.pins
  seqCounter := s.rx.seqCounter
  seqMem := s.rx.seqMem
  slotConflict := s.rx.slotConflict
  idle := (s.line1.idle, s.line2.idle)
  up := (s.line1.up, s.line2.up)
  silence := (s.line1.silence, s.line2.silence)
  peers := s.peers
  roleConflict := s.peerCtl.roleConflict
  recompTimer := s.peerCtl.recompTimer
  load := (s.car.load, s.car.loadFresh, s.car.loadTimer)
  pos := s.pos
  det := s.det
  restrictions := s.profile.restrictions
  runCounter := s.run.counter
  origins := s.trips.origins
  params := s.port.params
  code := s.port.code
  lastMatched := s.marker.lastMatched
  drift := s.marker.drift
  failed := (s.brakes.stage1.failed, s.brakes.stage2.failed, s.brakes.stage4.failed, s.brakes.stage8.failed)

/-- A frame with these contents stands in a line's transmit queue, or the queue is full (R46, R47). -/
def State.carries (s : State) (l : LineId) (b : Body) : Prop :=
  (∃ g ∈ (s.line l).queue, g.body = b) ∨ 8 ≤ (s.line l).queue.length

/-- The contents of a STATUS without the estimate, which the own record takes anew at each sample (R21, R60). -/
def Status.withoutEstimate (st : Status) : Status := { st with x := 0, v := 0, quality := .unknown, standstill := false }

/-- A STATUS with the contents of the own record, but for an estimate taken since, waits in a line's transmit queue, or the queue is
full (R46, R47). -/
def State.statusWaits (s : State) (l : LineId) : Prop :=
  (∃ g ∈ (s.line l).queue, g.sending = false
    ∧ ∃ st, g.body = .status st ∧ st.withoutEstimate = s.own.status.withoutEstimate)
  ∨ 8 ≤ (s.line l).queue.length

/-- `b` follows `a` by reactions alone: the kept part is the same, events only join the queue, a result already given stays,
a set trip latch keeps its cause, a station in TRIPPED with a trip asserted stays there, the own record and the STATUS timer
change only as a STATUS formed now changes them, and frames queued stay queued where the queue has room, a STATUS renewed. -/
structure Settled (a b : State) : Prop where
  kept : b.kept = a.kept
  events : a.port.queue <+: b.port.queue
  overflow : a.port.overflow = true → b.port.overflow = true
  capacity : a.port.queue.length ≤ 16 → b.port.queue.length ≤ 16
  result : a.port.busy = false →
    b.port.busy = false ∧ b.port.result = a.port.result ∧ b.port.unread = a.port.unread
  latch : ∀ c, a.trips.latch = some c → b.trips.latch = some c
  tripped : a.run.state = .tripped → a.tripAsserted = true → b.run.state = .tripped
  formed : b.own.formedAt = a.own.formedAt ∨ b.own.formedAt = a.clock
  statusTimer : b.peerCtl.statusTimer = a.peerCtl.statusTimer
    ∨ b.peerCtl.statusTimer = startTimer a.params.tStatus
  frames : ∀ l x, x.isStatus = false → a.carries l x → b.carries l x
  statusFrame : a.phase = .running → a.listening = false → ∀ l, a.statusWaits l → b.statusWaits l

/-- `c` completed at once with result `r`, and nothing but the command slot and the reactions changed (R179). -/
def Answered (c : CommandName) (r : Result) (s t : State) : Prop :=
  t.port.busy = false ∧ t.port.code = c.code ∧ t.port.result = r ∧ t.port.unread = true
  ∧ Settled (answer r (startCommand c s)) t

/-! ### Frames taken -/

/-- A frame of another slot that arrives in operation, is valid and is accepted (R51 to R53). -/
structure State.Accepts (s : State) (bytes : List Byte) (delimited : Bool) (f : RxFrame) : Prop where
  running : s.phase = .running
  valid : parseFrame bytes delimited = some f
  other : f.sender ≠ s.ownSlot
  fresh : accepts (s.rx.seqMem.get f.sender) f.seq = true

/-- What an accepted frame leaves before its owner acts on it: its line heard, its number remembered (R53, R56, R57; log 4). -/
def State.acceptedFrom (s : State) (l : LineId) (f : RxFrame) : State :=
  (hearLine l (setIdle l false s)).onRx fun r => { r with seqMem := setAt r.seqMem f.sender (some f.seq) }

/-- The next state where an accepted frame is ignored: the reactions follow what every accepted frame leaves. -/
def State.ignoring (s : State) (l : LineId) (f : RxFrame) : State := finishWith false s (s.acceptedFrom l f)

/-- An accepted STATUS of the DRIVE, sound and without trip, at another station that holds no trip: no other record shows the role, so the
sender's is the PRESENT drive record (R63, R67). -/
structure State.HearsSoundDrive (s : State) (bytes : List Byte) (delimited : Bool) (f : RxFrame) (st : Status) : Prop where
  taken : s.Accepts bytes delimited f
  status : f.body = .status st
  drive : st.role = some .drive
  sound : st.profileId = s.loader.profileId ∧ st.fault = false ∧ s.configFault = false
  alone : ∀ j c, j ≠ f.sender → (s.peer j).contents = some c → c.role ≠ some .drive
  follower : s.role ≠ none ∧ s.isDrive = false
  untripped : st.trip = none ∧ s.tripAsserted = false

/-- The same with no hold on either side and no abort pending. -/
structure State.HearsDrive (s : State) (bytes : List Byte) (delimited : Bool) (f : RxFrame) (st : Status) : Prop
    extends s.HearsSoundDrive bytes delimited f st where
  unheld : st.hold = false ∧ s.holdsEmpty = true ∧ s.run.run.abortPending = false

/-- The line standstill that the drive's STATUS brings a station: the drive's flag, and a car's own (R25). -/
def State.standsWith (s : State) (st : Status) : Prop := st.standstill = true ∧ (s.isCar = true → s.pos.standstill = true)

/-- The station has joined the run of the drive's STATUS on a leg with a target (R123): its record, its stop count, and its stop list,
where the entry at the target lies before the TERMINAL. -/
def State.hasJoined (t : State) (id : RunId) (st : Status) (leg : Nat) (target : Int) (status : EntryStatus) : Prop :=
  let terminal : Int := if st.dir = .up then t.params.L else 0
  let last : StopEntry := ⟨terminal, .terminal, t.params.allowTerminal, .pending⟩
  let entry : StopEntry := if st.kind = .service then ⟨t.params.pLoop, .loop, t.params.allowLoop, status⟩
    else ⟨target, .halt, t.params.allowHalt, status⟩
  t.run.run.hdr = some ⟨id, st.kind, st.dir⟩ ∧ t.run.run.leg = leg ∧ t.run.run.decision = st.decision
  ∧ t.run.run.designator = false ∧ t.run.run.rejoined = true ∧ t.stopCount = st.stopCount
  ∧ (magnitude (target - terminal) ≤ t.params.W → t.run.run.stops = [last])
  ∧ (t.params.W < magnitude (target - terminal) → 0 < st.dir.sgn * (terminal - entry.pos) →
      t.run.run.stops = [entry, last])

/-- The station holds a run as a RUN_OPEN opens it, `est` being its supervision estimate before (R86, R81, R82): the LOOP entry stands
where the flag asks for it, the loop lies ahead, and more than 2W before the TERMINAL. -/
def State.hasOpened (t : State) (est : Option (Int × Int)) (id : RunId) (kind : RunKind) (dir : Dir) (loopStop : Bool) : Prop :=
  let p := t.params
  let terminal : Int := if dir = .up then p.L else 0
  let last : StopEntry := ⟨terminal, .terminal, p.allowTerminal, .pending⟩
  let called := loopStop = true ∧ (∃ e, est = some e ∧ p.W < dir.sgn * (p.pLoop - e.1))
    ∧ 2 * p.W < magnitude (terminal - p.pLoop) ∧ 0 < dir.sgn * (terminal - p.pLoop)
  t.run.state = .dispatch ∧ t.run.run.hdr = some ⟨id, kind, dir⟩ ∧ t.run.run.leg = 0 ∧ t.run.run.designator = false
  ∧ t.run.run.decision = (if kind = .service then .undecided else .notApplicable)
  ∧ t.run.run.dispatchTimer = startTimer p.tDisp
  ∧ (called → t.run.run.stops = [⟨p.pLoop, .loop, p.allowLoop, .pending⟩, last]) ∧ (¬called → t.run.run.stops = [last])

/-- A new entry stands between its neighbours in the run direction and the entries held are kept (R81): `d` is the direction's sign, the
list held being in run order. -/
def joinsInOrder (d : Int) (e : StopEntry) (held new : List StopEntry) : Prop :=
  ∃ before behind, held = before ++ behind ∧ new = before ++ e :: behind
    ∧ (∀ g ∈ before, d * (g.pos - e.pos) ≤ 0)
    ∧ (held.Pairwise (fun a b => 0 < d * (b.pos - a.pos)) → ∀ g ∈ behind, 0 < d * (g.pos - e.pos))

/-- The LOOP entry has been added by the insertion step of R81, where the list held none (R93): it is merged within 2W of an entry, and
none is placed in a full list or at or beyond the TERMINAL. -/
def State.loopAdded (s : State) (new : List StopEntry) : Prop :=
  let held := s.run.run.stops
  let absent := ∀ e ∈ held, e.kind ≠ .loop
  let apart := ∀ e ∈ held, 2 * s.params.W < magnitude (e.pos - s.params.pLoop)
  let room := held.length < 8 ∧ 0 < s.dirSgn * (s.terminal - s.params.pLoop)
  (absent ∧ apart ∧ room → joinsInOrder s.dirSgn ⟨s.params.pLoop, .loop, s.params.allowLoop, .pending⟩ held new)
  ∧ (¬(absent ∧ apart ∧ room) → new = held)

/-- The value of RUN_OPENED (R105). -/
def runOpenedValue (kind : RunKind) (dir : Dir) (loopStop : Bool) : Int :=
  (if kind = .service then 1 else 2) + (if dir = .down then 4 else 0) + if loopStop = true then 8 else 0

/-- The monitor of a car as it stands after arming (R31): no fault, and the expectation chosen from own x by R32, or awaited while the
quality is UNKNOWN. -/
def State.monitorArmed (t : State) : Prop :=
  t.marker.armed = true ∧ t.marker.faults = 0 ∧ t.marker.faultBlock = none
  ∧ (t.pos.quality = .unknown → t.marker.awaiting = true ∧ t.marker.expected = none)
  ∧ (t.pos.quality ≠ .unknown → t.marker.awaiting = false ∧ t.marker.expected = t.nextExpected t.pos.x)

/-- A station in STOPPING has returned to MOVING (R153): leg, stop list and decision kept, no hold target, and RESUMED with value 1 queued
where the queue has room for it and for what one command queues before it (R160, R185). -/
def State.hasReturned (s t : State) : Prop :=
  t.run.state = .moving ∧ t.run.run.hdr = s.run.run.hdr ∧ t.run.run.leg = s.run.run.leg ∧ t.run.run.stops = s.run.run.stops
  ∧ t.run.run.decision = s.run.run.decision ∧ t.run.run.holdTarget = none
  ∧ (s.port.queue.length ≤ 12 → (∀ l, (s.line l).queue.length ≤ 6) →
      ⟨.resumed, s.ownSlot, s.runId, s.supBlock, 1, s.clock⟩ ∈ t.port.queue)

/-- The DRIVE has resumed from HELD (R155): in MOVING on its leg, stop list and decision kept, RUN_GO with the first PENDING entry's
position in each transmit queue with room, and RESUMED with value 2 queued where the queue has room (R160, R185). -/
def State.hasResumed (s t : State) : Prop :=
  t.run.state = .moving ∧ t.run.run.hdr = s.run.run.hdr ∧ t.run.run.leg = s.run.run.leg ∧ t.run.run.stops = s.run.run.stops
  ∧ t.run.run.decision = s.run.run.decision ∧ t.run.run.holdTarget = none
  ∧ (s.listening = false → ∀ id e, s.runId = some id → s.firstPending = some e →
      ∀ l, t.carries l (.runGo id s.run.run.leg e.pos))
  ∧ (s.port.queue.length ≤ 3 → (∀ l, (s.line l).queue.length ≤ 5) →
      ⟨.resumed, s.ownSlot, s.runId, s.supBlock, 2, s.clock⟩ ∈ t.port.queue)

/-- The DRIVE has closed its run as arrived (R115): RUN_CLOSE with ARRIVED in each transmit queue with room, RUN_CLOSED queued where the
queue has room, and the record empty (R80, R105). -/
def State.closedArrived (s t : State) : Prop :=
  t.run.state = .idle ∧ t.run.run = RunRecord.empty
  ∧ (s.listening = false → ∀ id, s.runId = some id → ∀ l, t.carries l (.runClose id .arrived))
  ∧ (s.port.queue.length ≤ 3 → (∀ l, (s.line l).queue.length ≤ 5) →
      ⟨.runClosed, s.ownSlot, s.runId, none, 1, s.clock⟩ ∈ t.port.queue)

/-- What the entry to TRIPPED leaves of a run (R169): the run record at its start-up values but for run id, kind and direction, the run
counter kept, the ready latch clear, v_ref 0, monitor and traversal ended, and no RUN_CLOSED. -/
def State.endedByTrip (s t : State) : Prop :=
  t.run = ⟨.tripped, s.run.counter, { RunRecord.empty with hdr := s.run.run.hdr }⟩ ∧ t.car.ready = false ∧ t.ref = ⟨0, none⟩
  ∧ t.marker = s.marker.disarm ∧ t.profile.traversal = none
  ∧ ∀ e ∈ t.port.queue, e.kind = .runClosed → e ∈ s.port.queue

/-- A tracked command has completed with a result (R179, R182). -/
def State.completedWith (s t : State) (r : Result) : Prop :=
  s.port.busy = true → t.port.busy = false ∧ t.port.code = s.port.code ∧ t.port.result = r ∧ t.port.unread = true

/-- Another slot than those two holds a live claim on the own role (R63, R64). -/
def State.stillClaimed (s : State) (i : Slot) : Prop :=
  ∃ r j, s.role = some r ∧ j ≠ i ∧ j ≠ s.ownSlot ∧ (s.peer j).liveClaim r = true

/-! ### The door release -/

/-- A car may release its doors (R124). -/
def State.doorMayOpen (s : State) : Prop :=
  s.lineStandstill = true ∧ s.pos.quality ≠ .unknown
  ∧ (magnitude s.pos.x ≤ s.params.W ∨ magnitude (s.pos.x - s.params.L) ≤ s.params.W
      ∨ (s.isRole .carA = true ∧ magnitude (s.pos.x - s.params.pA) ≤ s.params.W)
      ∨ (s.isRole .carB = true ∧ magnitude (s.pos.x - s.params.pB) ≤ s.params.W))
  ∧ (s.run.state = .idle ∨ s.run.state = .dwell ∨ s.run.state = .arrived ∨ s.run.state = .held ∨ s.run.state = .tripped)

/-! ### Frames that their layouts can carry -/

/-- STATUS contents within the fields of R196. -/
def Status.encodable (st : Status) : Prop :=
  (st.runId.isSome = true ↔ st.runState ≠ .idle) ∧ st.leg ≤ 7 ∧ st.stopCount ≤ 8 ∧ (∀ n, st.consent = some n → n ≤ 8)
  ∧ fitsSigned 24 st.target = true ∧ fitsSigned 24 st.x = true ∧ fitsSigned 16 st.v = true
  ∧ (carCode st.roleCode = true →
      (∀ k, st.lastMatched = some k → k < 255) ∧ (∀ k, st.faultBlock = some k → k < 255) ∧ st.load < 65536)
  ∧ (carCode st.roleCode = false → st.lastMatched = none ∧ st.faultBlock = none ∧ st.load = 0)
  ∧ ∀ r, st.restriction = some r →
      0 ≤ r.count ∧ r.count ≤ 127 ∧ 0 ≤ r.speed ∧ r.speed < 65536 ∧ (r.count = 0 → r.complement = true)

/-- Frame contents within the fields of R195. -/
def Body.encodable : Body → Prop
  | .status st => st.encodable
  | .addStop _ p => fitsSigned 32 p = true
  | .runGo _ leg t => leg ≤ 7 ∧ fitsSigned 32 t = true
  | .runClose _ c => c ≠ .noDrive ∧ c ≠ .contention
  | .runOpen .. | .loopCall _ | .hold _ | .release _ | .abort _ | .trip _ => True

end Sys2Proof.Machine
end

