-- ==== Sys2Proof/Certificates/Slice0/Obligations.lean ====
section
/-! DEFINITION. The statements for the provers. Every command completes with a next state; `Settled u t` says that t follows the
state u, with the command's own effect, by the reactions of the part alone. -/

open Sys2Proof Sys2Proof.Machine

/-! ### The machine as a whole -/

/-- A step takes the command at the front of the queue and runs it with the queue's rest (95_what_each_step_holds.md: each step
whole and indivisible). -/
def Obligations.StepTakesTheFrontCommand : Prop :=
  ∀ (c : Instr) (rest : List Instr) (s : State), s.pending = c :: rest → step s = exec c { s with pending := rest }

/-- With no command waiting one millisecond passes (the model's choice, log 1); in reset the clock stands. -/
def Obligations.EmptyQueuePassesOneMillisecond : Prop :=
  (∀ s : State, s.pending = [] → s.phase = .running →
    ∃ t, step s = .next t ∧ t.clock = s.clock + 1 ∧ t.pending = expiries s ∧ t.run.state = s.run.state ∧ t.port = s.port
      ∧ t.outputs = s.outputs ∧ t.trips = { s.trips with kept := none } ∧ t.pins = s.pins ∧ t.profile = s.profile
      ∧ (∀ n, s.pos.sampleTimer = some (n + 1) → t.pos.sampleTimer = some n)
      ∧ (s.pos.sampleTimer = some 1 → .sampleTimerExpiry s.pins.counter ∈ t.pending))
  ∧ ∀ s : State, s.pending = [] → s.phase = .inReset → step s = .next s

/-- The state of a part in reset meets every invariant stated below. What stands in the fields in reset is the model's choice (log
6); only the safe outputs are the rule's (R189). -/
def Obligations.ResetMeetsEveryInvariant : Prop :=
  State.reset.Sound ∧ State.reset.tripSound ∧ State.reset.demandSound ∧ State.reset.referenceSound
  ∧ State.reset.attnSound ∧ State.reset.tripOutputsSound ∧ State.reset.brakesSound ∧ State.reset.safeOutputs
  ∧ State.reset.parkingSound ∧ State.reset.levelSound ∧ State.reset.restSound ∧ State.reset.referenceOutputSound
  ∧ State.reset.announcedSound ∧ State.reset.monitorSound ∧ State.reset.emergencySound ∧ State.reset.invalidRoleSafe

/-- The capacities of the queues and of the ring, the two lines not both DOWN, the origin set without the own slot, the hold set
empty in IDLE and TRIPPED, the stop list of at most 8 entries in run order with its TERMINAL last, and the consent view with entries at
the DRIVE for PRESENT records alone: every step keeps them (R22, R46, R56, R80, R81, R97, R144, R171, R185). -/
def Obligations.EveryStepKeepsTheStateSound : Prop :=
  ∀ s t : State, s.Sound → step s = .next t → t.Sound

/-- A station is in TRIPPED exactly while a trip is asserted, and every step keeps it so (R169, R171, R172). -/
def Obligations.TrippedExactlyWhileATripIsAsserted : Prop :=
  ∀ s t : State, s.tripSound → step s = .next t → t.tripSound

/-- The own demand is TRIP while the latch is set, and every step keeps it so (R140, R193). -/
def Obligations.DemandIsTripWhileTheLatchIsSet : Prop :=
  ∀ s t : State, s.demandSound → step s = .next t → t.demandSound

/-- v_ref is 0 outside MOVING and STOPPING, under a trip and under a braking demand, and at most the drive limit of x_D's block in
magnitude; every step keeps it so (R107). It becomes 0 at the change itself: at the evaluation that leaves the combined demand at SERVICE
or TRIP, one that a later evaluation of the same event lowers again among them, at the latch of a trip and at an entry to the origin set;
what counts as an evaluation within an event is log 57. The reference output follows it (R108, 11.5): silent until the DRIVE's first own
sample, then the signed 16-bit word of v_ref after every step, so 0 where v_ref must be. Its silence in CONFIG_FAULT is log 31. -/
def Obligations.SpeedReferenceIsZeroWhenNotAllowed : Prop :=
  (∀ s t : State, s.referenceSound → step s = .next t → t.referenceSound)
  ∧ (∀ s t : State, s.referenceOutputSound → step s = .next t → t.referenceOutputSound)
  ∧ (∀ s t : State, s.referenceSound → s.referenceOutputSound → step s = .next t → t.phase = .running → t.isDrive = true →
    t.inMotion = false ∨ t.tripAsserted = true ∨ t.braking = true →
    t.outputs.speedWord = none ∨ t.outputs.speedWord = some 0)
  ∧ (∀ (s : State) (count : Word32), s.phase = .running → s.isDrive = true → s.configFault = false →
    s.pos.sampleTimer.isSome = true →
    ∃ t, exec (.sampleTimerExpiry count) s = .next t ∧ t.outputs.speedWord = some (signedField 16 t.ref.vref))
  ∧ (∀ (c : Instr) (s t : State), s.phase = .running → s.outputs.speedWord = none → exec c s = .next t →
    match c with
      | .sampleTimerExpiry _ => s.configFault = true → t.outputs.speedWord = none
      | _ => t.outputs.speedWord = none)
  ∧ (∀ v : Int, -(2 ^ 15) ≤ v → v < 2 ^ 15 → signedField 16 v = BitVec.ofInt 16 v)
  ∧ (∀ s : State, s.isDrive = true →
    let u := reevaluate s
    u.inMotion = false ∨ u.tripAsserted = true ∨ u.braking = true → u.ref.vref = 0)
  ∧ (∀ s : State, s.isDrive = true → (reevaluate (handSup s)).braking = true → (recompute s).ref.vref = 0)
  ∧ ∀ s : State, s.run.state ≠ .tripped →
    (∀ c, s.trips.latch = none → (latchTrip c s).ref.vref = 0) ∧ ∀ i c, (enterOrigin i c s).ref.vref = 0

/-- ATTN follows the event queue and the unread flag after every step (R187). -/
def Obligations.AttnFollowsQueueAndUnreadResult : Prop :=
  (∀ s t : State, s.attnSound → step s = .next t → t.attnSound)
  ∧ ∀ (s : State) (img : List Byte) (pins : PlantPins), s.phase = .loading → ∃ t, exec (.startUpComplete img pins) s = .next t
    ∧ (t.outputs.attn = true ↔ t.port.queue ≠ [] ∨ t.port.unread = true) ∧ t.port.unread = false
    ∧ (t.configFault = true → t.outputs.attn = true)

/-- The safety chain, the track brake and the DRIVE's brakes follow the trips and the cases of R164 after every step (R173). That the
track brake of a car in CONFIG_FAULT follows R173's scope too is the model's choice (log 27). -/
def Obligations.TripOutputsAndBrakesFollowTheState : Prop :=
  ∀ s t : State, s.tripOutputsSound → s.brakesSound → step s = .next t → t.tripOutputsSound ∧ t.brakesSound

/-- Outside operation every output is at its safe level, whatever step is taken (R189). Under an invalid role code every plant output stays
there in operation too (R193), and the reference output silent. -/
def Obligations.OutputsAreSafeOutsideOperation : Prop :=
  (∀ s t : State, s.safeOutputs → step s = .next t → t.safeOutputs)
  ∧ ∀ s t : State, s.safeOutputs → s.invalidRoleSafe → step s = .next t → t.invalidRoleSafe

/-- In operation, what each kind of state changes by: every other command leaves it. -/
def Obligations.OnlyItsCommandsChangeEachStore : Prop :=
  ∀ (c : Instr) (s t : State), s.phase = .running → exec c s = .next t →
    (match c with
      | .frameArrival _ _ _ | .staleTimerExpiry _ | .lostTimerExpiry _ | .resetAssert => True
      | _ => t.peers = s.peers)
    ∧ (match c with
      | .frameArrival _ _ _ | .resetAssert => True
      | _ => t.trips.origins = s.trips.origins)
    ∧ (match c with
      | .sampleTimerExpiry _ | .standstillTimerExpiry | .referenceSwitchActive _ _ | .setPosition | .markerArrival _ _
      | .frameArrival _ _ _ | .resetAssert => True
      | _ => t.pos = s.pos)
    ∧ (match c with
      | .detectorActive _ | .detectorInactive _ | .stuckTimerExpiry _ | .resetAssert => True
      | _ => t.det = s.det)
    ∧ (match c with
      | .frameArrival _ _ _ | .setRestriction | .resetAssert => True
      | _ => t.profile.restrictions = s.profile.restrictions)
    ∧ (match c with
      | .setLoad | .loadTimerExpiry | .resetAssert => True
      | _ => t.car.load = s.car.load ∧ t.car.loadFresh = s.car.loadFresh)
    ∧ (match c with
      | .requestRun | .resetAssert => True
      | _ => t.run.counter = s.run.counter)
    ∧ (match c with
      | .resetTrip | .resetAssert => True
      | _ => ∀ k, s.trips.latch = some k → t.trips.latch = some k)

/-! ### Frames and their check -/

/-- A frame sent is the frame received, for every kind and every value its layout carries (R43, R195, R196); a TRIPPED STATUS without
a run is left out, for the layout gives its run id no value (log 18). Levels on a line give the bytes of a frame with its delimiter exactly
where they begin with the levels of those bytes, and no coded part has six equal levels in a row (R42; which bits go out first, which level
a bit is and how inserted levels count are log 58). -/
def Obligations.ReceivedFrameIsTheFrameSent : Prop :=
  (∀ (slot : Slot) (seq : Byte) (b : Body), b.encodable → parseFrame (frameBytes slot seq b) true = some ⟨slot, seq, b⟩
    ∧ readLevels (frameLevels (frameBytes slot seq b)) = (frameBytes slot seq b, true))
  ∧ (∀ (levels : List Bool) (bytes : List Byte), readLevels levels = (bytes, true) ↔
      ∃ rest, levels = frameLevels bytes ++ rest ∧ bytes.length = (byteAt bytes 3).toNat % 64 + 6)
  ∧ (∀ (bytes : List Byte) (level : Bool) (pre post : List Bool), codedPart bytes ≠ pre ++ List.replicate 6 level ++ post)
  ∧ (∀ bytes : List Byte, frameLevels bytes = codedPart bytes ++ List.replicate 7 true ∧ (codedPart bytes).head? = some false)
  ∧ ∀ (s : State) (l : LineId) (levels : List Bool), s.pending = [] →
      step (s.withLevels l levels) = exec (.frameArrival l (readLevels levels).1 (readLevels levels).2) s

/-- The two running sums, what the sender places, what the receiver tests, and the profile identity (R44). -/
def Obligations.CheckIsTheTwoRunningSums : Prop :=
  runningSums [] = (0, 0)
  ∧ (∀ (bs : List Byte) (b : Byte), runningSums (bs ++ [b]) =
      (((runningSums bs).1 + b.toNat) % 255, ((runningSums bs).2 + ((runningSums bs).1 + b.toNat) % 255) % 255))
  ∧ (∀ (slot : Slot) (seq : Byte) (b : Body), frameBytes slot seq b = headerBytes slot seq b ++ b.payload
      ++ [byteOf (runningSums (headerBytes slot seq b ++ b.payload)).1,
          byteOf (runningSums (headerBytes slot seq b ++ b.payload)).2])
  ∧ (∀ (bs : List Byte) (c d : Byte), checkPasses (bs ++ [c, d]) = true ↔
      c.toNat = (runningSums bs).1 ∧ d.toNat = (runningSums bs).2)
  ∧ ∀ img : List Byte, profileIdentity img = (byteOf (runningSums ((img.take (imageLength img - 2)).drop 8)).1,
      byteOf (runningSums ((img.take (imageLength img - 2)).drop 8)).2)

/-- An offered frame in a transmit queue (R46, R47). A frame originated in the listen period is discarded (R45). A STATUS takes the place of
the waiting STATUS. Otherwise, with a place left, the frame joins behind the frames of its own and more urgent priorities. In a full queue a
frame more urgent than the largest waiting priority value displaces the newest waiting frame of that value and joins, and any other is
dropped. A frame originated is offered to each line's queue, judged on its own; each frame lost queues TX_DROP with the own slot, the run
id, no block, and the line number times 256 plus the kind code of the frame lost, and nothing else is queued (the order of two is log 36).
So it is for the STATUS that T_status calls for where the queue is full of more urgent frames. -/
def Obligations.OfferedFrameFindsItsPlace : Prop :=
  (∀ (f : TxFrame) (q : List TxFrame), q.length ≤ 8 → (q.Pairwise fun a b => a.body.priority ≤ b.body.priority) →
    (offerQueue f q).1.length ≤ 8 ∧ ((offerQueue f q).1.Pairwise fun a b => a.body.priority ≤ b.body.priority)
    ∧ (∀ pre g post, q = pre ++ g :: post → f.body.isStatus = true → g.body.isStatus = true → g.sending = false →
        waitingStatus pre = false → offerQueue f q = (pre ++ f :: post, none))
    ∧ ((f.body.isStatus = true → waitingStatus q = false) → q.length < 8 →
        ∃ pre post, q = pre ++ post ∧ offerQueue f q = (pre ++ f :: post, none)
          ∧ (∀ h ∈ pre, h.body.priority ≤ f.body.priority) ∧ ∀ h ∈ post, f.body.priority < h.body.priority)
    ∧ ((f.body.isStatus = true → waitingStatus q = false) → ∀ pre g post, q = pre ++ g :: post → q.length = 8 →
        g.sending = false → (∀ h ∈ q, h.sending = false → h.body.priority ≤ g.body.priority) →
        (∀ h ∈ post, h.sending = false → h.body.priority < g.body.priority) →
        (f.body.priority < g.body.priority →
            ∃ a b, pre ++ post = a ++ b ∧ offerQueue f q = (a ++ f :: b, some g)
              ∧ (∀ h ∈ a, h.body.priority ≤ f.body.priority) ∧ ∀ h ∈ b, f.body.priority < h.body.priority)
        ∧ (g.body.priority ≤ f.body.priority → offerQueue f q = (q, some f))))
  ∧ (∀ (s : State) (l : LineId) (f : TxFrame),
    ((offerLine l f s).line l).queue = (offerQueue f (s.line l).queue).1
    ∧ ((offerQueue f (s.line l).queue).2 = none → (offerLine l f s).port = s.port)
    ∧ ∀ g, (offerQueue f (s.line l).queue).2 = some g → (offerLine l f s).port
        = s.port.push ⟨.txDrop, s.ownSlot, s.runId, none, ((lineNumber l * 256 + g.body.kindCode : Nat) : Int), s.clock⟩)
  ∧ (∀ (s : State) (b : Body), s.phase = .running → s.listening = false →
    let lost (l : LineId) : Option TxFrame := (offerQueue ⟨s.rx.nextFrameId, b, none, false⟩ (s.line l).queue).2
    (∀ l, ((originate b s).line l).queue = (offerQueue ⟨s.rx.nextFrameId, b, none, false⟩ (s.line l).queue).1)
    ∧ ((∀ l, lost l = none) → (originate b s).port = s.port)
    ∧ ∀ l g, lost l = some g → s.port.queue.length ≤ 14 →
        ⟨.txDrop, s.ownSlot, s.runId, none, ((lineNumber l * 256 + g.body.kindCode : Nat) : Int), s.clock⟩
          ∈ (originate b s).port.queue)
  ∧ (∀ (s : State) (l : LineId), s.phase = .running → s.listening = false → s.peerCtl.statusTimer.isSome = true →
    8 ≤ (s.line l).queue.length → (∀ h ∈ (s.line l).queue, h.body.priority < 3) → s.port.queue.length ≤ 14 →
    ∃ t, exec .statusTimerExpiry s = .next t
      ∧ ⟨.txDrop, s.ownSlot, s.runId, none, ((lineNumber l * 256 + 1 : Nat) : Int), s.clock⟩ ∈ t.port.queue)
  ∧ (∀ (s : State) (b : Body), s.phase = .running → s.listening = true → originate b s = s)
  ∧ ∀ (c : Instr) (s t : State), s.phase = .running → s.listening = true → exec c s = .next t → t.listening = true →
    ∀ l g, g ∈ (t.line l).queue → ∃ h ∈ (s.line l).queue, h.body = g.body

/-! ### Supply, reset and loader -/

/-- RESET_ASSERT ends everything the part holds, with every output at its safe level; START_UP starts the clock and reads
the straps (R189). What stands in the fields in reset is the model's choice (log 6), and so is what RESET_ASSERT keeps (log
31). -/
def Obligations.ResetAndStrapsStartThePart : Prop :=
  (∀ s : State, exec .resetAssert s = .next { State.reset with pending := s.pending, freeUses := s.freeUses })
  ∧ State.reset.outputs = ⟨true, true, true, true, true, true, true, false, none, false⟩
  ∧ ∀ (s : State) (slot : Slot) (roleStraps : Fin 8), s.phase = .inReset →
      exec (.startUp slot roleStraps) s = .next { s with phase := .loading, clock := 0, straps := ⟨slot, roleStraps⟩ }

/-- START_UP_COMPLETE puts every block in its start-up state, with the listen period and the silence timers running (R192; R7, R26,
R27, R41, R58, R79, R80, R126, R143, R174, R176, R188). With an accepted image the station is in IDLE, or in TRIPPED with LOCAL where
the emergency-stop input is active (R170); a configuration fault latches CONFIG, enters TRIPPED and queues TRIP_LATCHED and
CONFIG_FAULT first (R193), and leaves the combined demand NONE (R143). The clock and straps as START_UP left them; the pins come with
the command (log 6), and the count origin of the first sample is the reading they bring (log 3). -/
def Obligations.StartUpCompleteStartsEveryBlock : Prop :=
  ∀ (s : State) (img : List Byte) (pins : PlantPins), s.phase = .loading → s.safeOutputs →
    ∃ t, exec (.startUpComplete img pins) s = .next t
      ∧ t.phase = .running ∧ t.clock = s.clock ∧ t.straps = s.straps ∧ t.pins = pins ∧ t.pending = s.pending
      ∧ t.loader = { loadedLoader s.straps.roleCode img with listenTimer := startTimer (2 * t.params.tLost) }
      ∧ (∀ i, t.peer i = PeerRecord.empty) ∧ (∀ i, t.trips.origins.get i = none) ∧ (∀ i, t.rx.seqMem.get i = none)
      ∧ (∀ i, t.profile.restrictions.get i = none) ∧ (∀ i, t.port.params.get i = 0)
      ∧ t.rx.seqCounter = 0 ∧ t.run.counter = 0 ∧ t.car.load = 0 ∧ t.car.loadFresh = false
      ∧ (∀ l, (t.line l).up = true ∧ (t.line l).silence = startTimer t.params.tLost ∧ (t.line l).queue = [])
      ∧ t.rx.slotConflict = false
      ∧ t.peerCtl = ⟨false, none, if t.isRole .loop ∨ t.isRole .wayside then startTimer t.params.tSamp else none⟩
      ∧ t.profile.proof = 0 ∧ t.profile.traversal = none
      ∧ t.car = ⟨0, false, none, false⟩ ∧ t.marker = ⟨false, false, none, 0, none, none, 0⟩
      ∧ (∀ d, t.det.unit d
          = ⟨if t.isRole .loop ∧ detectorPin pins d then startTimer t.params.tDetMax else none, false⟩)
      ∧ t.det.passageA = none ∧ t.det.passageB = none
      ∧ t.pos.v = 0 ∧ t.pos.lastCount = pins.counter ∧ t.pos.standstill = false ∧ t.pos.standTimer = none
      ∧ t.pos.sampleTimer = (if t.hasEstimate then startTimer t.params.tSamp else none)
      ∧ (t.isDrive = true → t.configFault = false → ∀ sw, switchPin pins sw = true → switchPin pins (otherSwitch sw) = false →
          t.pos.quality = .confirmed ∧ t.pos.x = switchPosition t.params sw
          ∧ t.pos.ring = [(switchPosition t.params sw, s.clock)])
      ∧ (t.isDrive = false ∨ t.configFault = true ∨ pins.valley = pins.summit →
          t.pos.quality = .unknown ∧ t.pos.x = 0 ∧ t.pos.ring = [])
      ∧ t.sup = formSup none t.enteredAll ∧ t.own.formedAt = s.clock
      ∧ t.run.run = RunRecord.empty ∧ t.ref = ⟨0, none⟩ ∧ t.env.level = .none ∧ t.env.binding = none
      ∧ (∀ st, (t.brakes.unit st).failed = false) ∧ t.brakes.ebFault = false
      ∧ t.outputs.doorRelease = false ∧ t.outputs.speedWord = none
      ∧ t.port.busy = false ∧ t.port.code = 0 ∧ t.port.result = .none ∧ t.port.unread = false ∧ t.port.overflow = false
      ∧ t.port.reply = none
      ∧ (∀ im, loadImage s.straps.roleCode img = .ok im →
          (pins.emergencyStop = false → t.run.state = .idle ∧ t.trips.latch = none ∧ t.env.demand = .none)
          ∧ (pins.emergencyStop = true → t.run.state = .tripped ∧ t.trips.latch = some .localTrip
              ∧ ⟨.tripLatched, s.straps.slot, none, none, 7, s.clock⟩ ∈ t.port.queue))
      ∧ ∀ e, loadImage s.straps.roleCode img = .error e →
          t.trips.latch = some .config ∧ t.run.state = .tripped ∧ t.env.demand = .trip ∧ t.combinedDemand = .none
          ∧ [⟨.tripLatched, s.straps.slot, none, none, 9, s.clock⟩,
             ⟨.configFault, s.straps.slot, none, e.block, e.code, s.clock⟩] <+: t.port.queue

/-- Outside operation the part takes no event but the three of start-up, each in its own phase (R189; log 19). -/
def Obligations.NothingIsTakenOutsideOperation : Prop :=
  ∀ (c : Instr) (s : State), s.phase ≠ .running →
    (match c with
      | .resetAssert => True
      | .startUp _ _ => s.phase = .loading → exec c s = .next s
      | .startUpComplete _ _ => s.phase = .inReset → exec c s = .next s
      | _ => exec c s = .next s)

/-! ### Position unit -/

/-- A sample moves the own estimate by the counted distance of the role, rounds it in the run direction, enters it in the ring and restarts
the timer (R21, R22). At the DRIVE in MOVING it ends the leg at standstill with the stop at most W ahead, and at no other sample, on a loop
leg with the berthing target as this sample leaves it for the stop; from DWELL the next leg may begin at once, with RUN_GO and
RUN_COMMITTED, and from ARRIVED the run closes within W of the terminal, with RUN_CLOSE and RUN_CLOSED, at the leg's end or at a later
sample (R112 to R115, R125). While the leg goes on and its decision is taken, the sample forms v_ref: planning deceleration, braking speed,
the limits ahead, the caps of ADVISE and STOPPING, the bounded step (R107, R109 to R111, R152; where W lies above s_creep the first row of
R109 is taken, log 41). The step starts from v_ref as the sample found it, or from 0 where an evaluation within the sample set it to 0
(R107, log 57): at a sample that finds the invariants met, only where the berthing target changes in it. The square root is exact for every
radicand below 2^80, more than R109's 64 bits hold. The reading comes with the command (log 3), which is taken while its timer runs (log 2).
-/
def Obligations.SampleMovesTheOwnEstimate : Prop :=
  (∀ (s : State) (count : Word32), s.phase = .running → s.configFault = false → s.pos.sampleTimer.isSome = true →
    let scale : Int := if s.isRole .drive then s.params.scaleSheave else if s.isRole .carA then s.params.scaleA
      else if s.isRole .carB then -s.params.scaleB else 0
    let um := s.pos.um + (count - s.pos.lastCount).toInt * scale
    let x := if s.runDir = some .up then ceilDiv um 1000 else floorDiv um 1000
    let ring := (if s.pos.ring.length < 4 then s.pos.ring else s.pos.ring.drop (s.pos.ring.length - 3)) ++ [(x, s.clock)]
    ∃ t, exec (.sampleTimerExpiry count) s = .next t
      ∧ t.pos.um = um ∧ t.pos.lastCount = count ∧ t.pos.x = x ∧ t.pos.ring = ring
      ∧ t.pos.sampleTimer = startTimer s.params.tSamp ∧ t.pins = { s.pins with counter := count }
      ∧ (t.pos.quality = s.pos.quality
          ∨ s.isDrive = true ∧ s.pos.quality = .unconfirmed ∧ t.pos.quality = .confirmed)
      ∧ Settled { s with pins := { s.pins with counter := count }, pos := t.pos } t)
  ∧ (∀ (s : State) (count : Word32) (e : StopEntry) (stop allowance : Int), s.phase = .running → s.configFault = false →
    s.pos.sampleTimer.isSome = true → s.isDrive = true → s.run.state = .moving → s.run.run.decision ≠ .undecided →
    s.firstPending = some e → e.kind ≠ .loop ∨ s.run.run.berthFrozen = true → s.currentStop = some (stop, allowance) →
    ∃ t, exec (.sampleTimerExpiry count) s = .next t
      ∧ (t.pos.standstill = true → s.dirSgn * (stop - t.pos.x) ≤ s.params.W →
          t.tripAsserted = true
          ∨ ((s.port.queue.length ≤ 7 →
                ⟨.legReached, s.ownSlot, s.runId, some (s.blockOf stop), (e.kind.code : Int), s.clock⟩ ∈ t.port.queue)
            ∧ (e.kind = .terminal →
                (magnitude (s.terminal - t.pos.x) ≤ s.params.W → s.closedArrived t)
                ∧ (s.params.W < magnitude (s.terminal - t.pos.x) → t.run.state = .arrived ∧ t.run.run.leg = s.run.run.leg))
            ∧ (e.kind ≠ .terminal →
                (t.run.state = .dwell ∧ t.run.run.leg = s.run.run.leg ∧ t.run.run.stops = markReached s.run.run.stops)
                ∨ (t.run.state = .moving ∧ t.run.run.leg = s.run.run.leg + 1 ∧ t.run.run.stops = markReached s.run.run.stops
                  ∧ (s.listening = false → ∀ id n, s.runId = some id → t.firstPending = some n →
                      ∀ l, t.carries l (.runGo id t.run.run.leg n.pos))
                  ∧ (s.port.queue.length ≤ 3 → (∀ l, (s.line l).queue.length ≤ 5) →
                      ∀ id c, s.runId = some id → t.currentStop = some c → ⟨.runCommitted, id.origin, some id, some (s.blockOf c.1),
                        ((t.run.run.leg * 256 + t.stopCount : Nat) : Int), s.clock⟩ ∈ t.port.queue)))))
      ∧ (t.pos.standstill = false ∨ s.params.W < s.dirSgn * (stop - t.pos.x) →
          s.holdsEmpty = true → s.run.run.abortPending = false →
          t.tripAsserted = true ∨ (t.run.state = .moving ∧ t.run.run.leg = s.run.run.leg)))
  ∧ (∀ (s : State) (count : Word32), s.phase = .running → s.configFault = false → s.pos.sampleTimer.isSome = true →
    s.isDrive = true → s.run.state = .arrived →
    ∃ t, exec (.sampleTimerExpiry count) s = .next t
      ∧ (magnitude (s.terminal - t.pos.x) ≤ s.params.W → t.tripAsserted = true ∨ s.closedArrived t)
      ∧ (s.params.W < magnitude (s.terminal - t.pos.x) → t.tripAsserted = true ∨ t.run.state = .arrived))
  ∧ (∀ (s : State) (count : Word32) (e : StopEntry), s.phase = .running → s.configFault = false →
    s.pos.sampleTimer.isSome = true → s.isDrive = true → s.run.state = .moving → s.run.run.decision ≠ .undecided →
    s.firstPending = some e → e.kind = .loop → s.run.run.driven = none →
    ∃ t, exec (.sampleTimerExpiry count) s = .next t
      ∧ (t.run.state = .dwell → t.pos.standstill = true ∧ t.run.run.stops = markReached s.run.run.stops)
      ∧ (t.run.state = .moving → t.run.run.leg = s.run.run.leg → t.pos.standstill = true →
          ∀ b, t.run.run.berth = some b → s.params.W < s.dirSgn * (b - t.pos.x)))
  ∧ (∀ (s : State) (count : Word32), s.phase = .running → s.configFault = false → s.pos.sampleTimer.isSome = true →
    s.isDrive = true → s.run.state = .moving ∨ s.run.state = .stopping → s.run.run.decision ≠ .undecided →
    0 ≤ s.params.vMax → 0 ≤ s.params.vCreep →
    ∃ t, exec (.sampleTimerExpiry count) s = .next t
      ∧ (t.run.state = s.run.state → t.run.run.leg = s.run.run.leg → t.tripAsserted = false → t.braking = false →
          0 ≤ t.driveLimitHere → ∀ d stop allowance, t.runDir = some d → t.stopInUse = some (stop, allowance) →
        let p := t.params
        let remaining := d.sgn * (stop - t.pos.x)
        let aPl := max 1 (min p.aPlan (floorDiv (t.lowestGuaranteed (t.blockOf t.pos.x) (t.blockOf stop)) 2))
        let brake := if p.sCreep < remaining then isqrt (p.vCreep ^ 2 + 2 * aPl * (remaining - p.sCreep))
          else if p.W < remaining then p.vCreep else 0
        let ahead (b : Int × Nat × Nat) : Prop :=
          b ∈ t.boundaries d ∧ 0 < d.sgn * (b.1 - t.pos.x) ∧ d.sgn * (b.1 - t.pos.x) < remaining
        let allowed (b : Int × Nat × Nat) : Int := isqrt (t.driveLimit b.2.2 ^ 2 + 2 * aPl * (d.sgn * (b.1 - t.pos.x)))
        ∃ base least speed step : Int,
          (base = magnitude s.ref.vref ∨ base = 0)
          ∧ (s.levelSound → s.referenceSound → s.monitorSound → t.run.run.berth = s.run.run.berth → base = magnitude s.ref.vref)
          ∧ (least ≤ t.driveLimitHere ∧ least ≤ brake ∧ least ≤ p.vMax ∧ ∀ b, ahead b → least ≤ allowed b)
          ∧ (least = t.driveLimitHere ∨ least = brake ∨ least = p.vMax ∨ ∃ b, ahead b ∧ least = allowed b)
          ∧ speed = (let advised := if t.combinedDemand = .advise then min least (max (magnitude t.pos.v) p.vCreep) else least
              if t.run.state = .stopping then min advised base else advised)
          ∧ (base < speed →
              step = min speed (base + max 1 (floorDiv (p.aAcc * p.tSamp) 1000)))
          ∧ (speed ≤ base →
              step = max speed (base - ceilDiv (aPl * p.tSamp) 1000))
          ∧ t.ref = ⟨d.sgn * min t.driveLimitHere step, some ⟨stop, remaining, aPl, speed⟩⟩))
  ∧ ∀ n : Int, 0 ≤ n → n < 2 ^ 80 → 0 ≤ isqrt n ∧ isqrt n ^ 2 ≤ n ∧ n < (isqrt n + 1) ^ 2

/-- The speed over the ring (R23). -/
def Obligations.SpeedIsTheRingQuotient : Prop :=
  (∀ (s : State) (count : Word32), s.phase = .running → s.configFault = false → s.pos.sampleTimer.isSome = true →
    ∃ t, exec (.sampleTimerExpiry count) s = .next t
      ∧ (t.pos.ring.length < 2 → t.pos.v = 0)
      ∧ ∀ oldest mid newest, t.pos.ring = oldest :: (mid ++ [newest]) →
          t.pos.v = max (-15000) (min 15000
            (((newest.1 - oldest.1) * 1000).tdiv (max 1 ((newest.2 - oldest.2).toNat : Int)))))
  ∧ ∀ (x : Int) (q : Quality) (s : State), (snap x q s).pos.ring = [(x, s.clock)] ∧ (snap x q s).pos.v = 0

/-- The standstill flag and its timer (R24). -/
def Obligations.StandstillFollowsSpeedAndTimer : Prop :=
  (∀ (s : State) (img : List Byte) (pins : PlantPins), s.phase = .loading →
    ∃ t, exec (.startUpComplete img pins) s = .next t ∧ t.pos.standstill = false ∧ t.pos.standTimer = none)
  ∧ (∀ (s : State) (count : Word32), s.phase = .running → s.configFault = false → s.pos.sampleTimer.isSome = true →
    ∃ t, exec (.sampleTimerExpiry count) s = .next t
      ∧ (t.pos.ring.length < 2 → t.pos.standstill = s.pos.standstill ∧ t.pos.standTimer = s.pos.standTimer)
      ∧ (2 ≤ t.pos.ring.length → s.params.vStill < magnitude t.pos.v → t.pos.standstill = false ∧ t.pos.standTimer = none)
      ∧ (2 ≤ t.pos.ring.length → magnitude t.pos.v ≤ s.params.vStill →
          s.pos.standTimer = none → s.pos.standstill = false →
          t.pos.standstill = false ∧ t.pos.standTimer = startTimer s.params.tStill)
      ∧ (2 ≤ t.pos.ring.length → magnitude t.pos.v ≤ s.params.vStill →
          s.pos.standTimer ≠ none ∨ s.pos.standstill = true →
          t.pos.standstill = s.pos.standstill ∧ t.pos.standTimer = s.pos.standTimer))
  ∧ (∀ s : State, s.phase = .running → s.pos.standTimer.isSome = true →
    ∃ t, exec .standstillTimerExpiry s = .next t
      ∧ Settled { s with pos := { s.pos with standstill := true, standTimer := none } } t)
  ∧ (∀ s : State, s.hasEstimate = true → s.formStatus.standstill = s.pos.standstill)
  ∧ ∀ s : State, s.isDrive = true → s.lineStandstill = s.pos.standstill

/-- A reference switch going active snaps the DRIVE, unless the other switch is active; going inactive it lets the switch
snap again (R27). The reading comes with the command (log 3); a repeated level is no change (log 21). -/
def Obligations.ReferenceSwitchSnapsTheDrive : Prop :=
  (∀ (s : State) (sw : RefSwitch) (count : Word32), s.phase = .running → s.isDrive = true → s.configFault = false →
    switchPin s.pins sw = false → switchPin s.pins (otherSwitch sw) = false →
    ∃ t, exec (.referenceSwitchActive sw count) s = .next t
      ∧ Settled { s with
          pins := { setSwitch true sw s.pins with counter := count }
          pos := { s.pos with
            um := 1000 * switchPosition s.params sw, lastCount := count, x := switchPosition s.params sw, v := 0
            quality := .confirmed, ring := [(switchPosition s.params sw, s.clock)] } } t)
  ∧ (∀ (s : State) (sw : RefSwitch) (count : Word32), s.phase = .running → s.isDrive = true →
    switchPin s.pins sw = false → switchPin s.pins (otherSwitch sw) = true →
    ∃ t, exec (.referenceSwitchActive sw count) s = .next t
      ∧ Settled { s with pins := { setSwitch true sw s.pins with counter := count } } t)
  ∧ ∀ (s : State) (sw : RefSwitch), s.phase = .running → s.isDrive = true →
    ∃ t, exec (.referenceSwitchInactive sw) s = .next t ∧ Settled { s with pins := setSwitch false sw s.pins } t

/-- SET_POSITION, row by row of its table (R28). The count origin is the reading on the pins (log 3). -/
def Obligations.SetPositionFollowsItsTable : Prop :=
  ∀ s : State, s.phase = .running →
    let v := (s.port.params.get 0).toInt
    let x := max 0 (min s.params.L v)
    ∃ t, exec .setPosition s = .next t
      ∧ (s.isDrive = false → Answered .setPosition .wrongRole s t)
      ∧ (s.isDrive = true → s.configFault = true ∨ s.run.state ≠ .idle → Answered .setPosition .wrongState s t)
      ∧ (s.isDrive = true → s.configFault = false → s.run.state = .idle →
          (s.pins.valley = true ∨ s.pins.summit = true ∨ s.pos.quality = .confirmed →
            Answered .setPosition .nothingToDo s t)
          ∧ (s.pins.valley = false → s.pins.summit = false → s.pos.quality ≠ .confirmed →
              t.port.busy = false ∧ t.port.code = 9 ∧ t.port.unread = true
              ∧ t.port.result = (if 0 ≤ v ∧ v ≤ s.params.L then .done else if x = v then .done else .doneClamped)
              ∧ t.pos = { s.pos with
                  um := 1000 * x, lastCount := s.pins.counter, x := x, v := 0, quality := .unconfirmed
                  ring := [(x, s.clock)] }
              ∧ Settled { answer t.port.result (startCommand .setPosition s) with pos := t.pos } t))

/-- A code that equals the expected one snaps the car at the boundary, records the drift and clears the faults; a large
drift costs the block its proof, and the expectation advances from the boundary to the nearest one ahead that carries a code for the
car (R32 to R34). The reading comes with the command (log 3). -/
def Obligations.MarkerMatchSnapsTheCar : Prop :=
  (∀ (s : State) (code : BitVec 6) (count : Word32) (e : Expected), s.phase = .running → s.isCar = true →
    s.marker.armed = true → s.marker.expected = some e → code.toNat = e.code → e.code ≠ 0 →
    let x := s.toMillimetres (s.distanceAt count)
    ∃ t, exec (.markerArrival code count) s = .next t
      ∧ t.marker.faults = 0 ∧ t.marker.faultBlock = none
      ∧ (magnitude (e.boundary - x) > s.params.tolWarn → t.proven e.block = false)
      ∧ (t.tripAsserted = true ∨ t.marker.expected = s.nextExpected e.boundary)
      ∧ Settled { s with
          pins := { s.pins with counter := count }
          pos := { s.pos with
            um := 1000 * e.boundary, lastCount := count, x := e.boundary, v := 0, quality := .confirmed
            ring := [(e.boundary, s.clock)] }
          marker := { s.marker with drift := e.boundary - x, lastMatched := some e.block } } t)
  ∧ ∀ (s : State) (ref : Int),
    let code (k : Nat) : Nat := if s.isRole .carB then (s.block k).markerB else (s.block k).markerA
    (s.runDir = some .up →
        (∀ e, s.nextExpected ref = some e → ∃ k, k < s.blocks.length ∧ e = ⟨code k, s.startOf k, k⟩ ∧ code k ≠ 0
            ∧ ref < s.startOf k ∧ ∀ j, j < k → ref < s.startOf j → code j = 0)
        ∧ (s.nextExpected ref = none → ∀ j, j < s.blocks.length → ref < s.startOf j → code j = 0))
    ∧ (s.runDir = some .down →
        (∀ e, s.nextExpected ref = some e → ∃ k, k < s.blocks.length ∧ e = ⟨code k, s.startOf k, k - 1⟩ ∧ code k ≠ 0
            ∧ s.startOf k < ref ∧ ∀ j, k < j → j < s.blocks.length → s.startOf j < ref → code j = 0)
        ∧ (s.nextExpected ref = none → ∀ j, j < s.blocks.length → s.startOf j < ref → code j = 0))

/-- Another code costs the block its proof, counts a fault and asks for the MARK trip at the second in a row; code 0 and the
suppressed codes are ignored (R33, R35, R37). A sample that has carried x past the expected boundary by more than the window is a miss
with the same effects, and the expectation advances after both (R32, R36); a trip that the evaluation of the moved estimate finds
disarms the monitor before it (log 57). The reading comes with the command (log 3). -/
def Obligations.MarkerMismatchCountsAFault : Prop :=
  (∀ (s : State) (code : BitVec 6) (count : Word32) (e : Expected), s.phase = .running → s.isCar = true →
    s.marker.armed = true → s.marker.expected = some e → code.toNat ≠ 0 → code.toNat ≠ e.code →
    s.params.suppresses code.toNat = false →
    ∃ t, exec (.markerArrival code count) s = .next t
      ∧ t.proven e.block = false ∧ t.marker.faults = s.marker.faults + 1 ∧ t.marker.faultBlock = some e.block
      ∧ (t.tripAsserted = true ∨ t.marker.expected = s.nextExpected e.boundary)
      ∧ (s.port.queue.length ≤ 14 →
          ⟨.markMismatch, s.ownSlot, s.runId, some e.block, (code.toNat : Int), s.clock⟩ ∈ t.port.queue)
      ∧ (1 ≤ s.marker.faults → s.trips.latch = none → t.trips.latch = some .mark)
      ∧ Settled { s with pins := { s.pins with counter := count } } t)
  ∧ (∀ (s : State) (count : Word32) (e : Expected) (dir : Dir), s.phase = .running → s.isCar = true → s.configFault = false →
    s.pos.sampleTimer.isSome = true → s.marker.armed = true → s.marker.expected = some e → s.runDir = some dir →
    ∃ t, exec (.sampleTimerExpiry count) s = .next t
      ∧ (dir.sgn * (t.pos.x - e.boundary) ≤ s.params.markWindow →
          t.marker.faults = s.marker.faults ∧ t.marker.faultBlock = s.marker.faultBlock
          ∧ (t.tripAsserted = true ∨ t.marker = s.marker))
      ∧ (s.params.markWindow < dir.sgn * (t.pos.x - e.boundary) →
          (t.tripAsserted = true ∧ t.trips.latch ≠ some .mark ∧ t.marker = s.marker.disarm)
          ∨ t.proven e.block = false
          ∧ (s.port.queue.length ≤ 10 →
              ⟨.markMissed, s.ownSlot, s.runId, some e.block, dir.sgn * (t.pos.x - e.boundary), s.clock⟩ ∈ t.port.queue)
          ∧ (1 ≤ s.marker.faults → t.marker.faults = s.marker.faults + 1 ∧ t.marker.faultBlock = some e.block
              ∧ (s.trips.latch = none → t.trips.latch = some .mark))
          ∧ (s.marker.faults = 0 →
              ((∀ n, s.nextExpected e.boundary = some n → dir.sgn * (t.pos.x - n.boundary) ≤ s.params.markWindow) →
                t.marker.faults = 1 ∧ t.marker.faultBlock = some e.block
                ∧ (t.tripAsserted = true ∨ t.marker.expected = s.nextExpected e.boundary))
              ∧ (∀ n, s.nextExpected e.boundary = some n → s.params.markWindow < dir.sgn * (t.pos.x - n.boundary) →
                t.proven n.block = false ∧ t.marker.faults = 2 ∧ t.marker.faultBlock = some n.block
                ∧ (s.trips.latch = none → t.trips.latch = some .mark)))))
  ∧ ∀ (s : State) (code : BitVec 6) (count : Word32), s.phase = .running → s.isCar = true →
    code.toNat = 0
      ∨ (s.params.suppresses code.toNat = true ∧ ∀ e, s.marker.expected = some e → code.toNat ≠ e.code) →
    ∃ t, exec (.markerArrival code count) s = .next t
      ∧ (t.marker = s.marker ∨ (t.tripAsserted = true ∧ t.marker = s.marker.disarm))
      ∧ Settled { s with pins := { s.pins with counter := count } } t

/-- The detectors of the LOOP: pin, stuck timer, open passage, fault and its events, and the comparison of a fix with the
extrapolated position of the car (R38 to R41). The stuck timer's expiry is taken while it runs (log 2); a repeated level is no change
(log 21). That a fix is compared, with the evaluation this calls for, before its passage is timed is the model's choice (logs 5, 57): so
a fix above tol_trip that ends a too fast passage latches RECON, where R168 lets either request name the cause. -/
def Obligations.DetectorsTimePassagesAndFaults : Prop :=
  (∀ (s : State) (d : Detector), s.phase = .running → s.isRole .loop = true → s.configFault = false →
    detectorPin s.pins d = false →
    ∃ t, exec (.detectorActive d) s = .next t ∧ t.pins = setDetectorPin true d s.pins
      ∧ t.det.unit d = ⟨startTimer s.params.tDetMax, (s.det.unit d).fault⟩ ∧ (∀ e, e ≠ d → t.det.unit e = s.det.unit e)
      ∧ (s.det.passage (detectorCar d) = none → t.det.passage (detectorCar d) = some ⟨d, s.clock⟩)
      ∧ (∀ q, s.det.passage (detectorCar d) = some q →
          (q.det = d → t.det.passage (detectorCar d) = some ⟨d, s.clock⟩)
          ∧ (q.det ≠ d → t.det.passage (detectorCar d) = none
              ∧ (min 15000 (ceilDiv (magnitude (detectorPosition s.params d - detectorPosition s.params q.det) * 1000)
                    (max 1 ((s.clock - q.time).toNat : Int))) > s.passageLimit q.det d + s.params.dTrip →
                  t.trips.latch ≠ none)))
      ∧ t.peers = s.peers ∧ t.pos = s.pos ∧ t.trips.origins = s.trips.origins)
  ∧ (∀ (s : State) (d : Detector), s.phase = .running → s.isRole .loop = true → s.configFault = false →
    detectorPin s.pins d = false →
    let k := s.blockOf (detectorPosition s.params d)
    ∃ t, exec (.detectorActive d) s = .next t
      ∧ ((∀ i st, s.presentWith (detectorCar d) = some (i, st) → st.quality = .unknown) →
          t.profile.proof = s.profile.proof ∧ (s.trips.latch = none → t.trips.latch ≠ some .recon))
      ∧ ∀ i st, s.presentWith (detectorCar d) = some (i, st) → st.quality ≠ .unknown →
          let diff := magnitude (detectorPosition s.params d - s.extrapolate (s.peer i) st s.clock)
          (diff ≤ s.params.tolWarn →
              t.profile.proof = s.profile.proof ∧ (s.trips.latch = none → t.trips.latch ≠ some .recon))
          ∧ (s.params.tolWarn < diff → t.proven k = false)
          ∧ (s.params.tolWarn < diff → diff ≤ s.params.tolTrip → (∀ j, j ≠ k → t.proven j = s.proven j)
              ∧ (s.trips.latch = none → t.trips.latch ≠ some .recon))
          ∧ (s.params.tolWarn < diff → s.params.tolTrip < diff → s.trips.latch = none →
              t.trips.latch = some .recon ∧ t.profile.proof = 0))
  ∧ (∀ (s : State) (d : Detector), s.phase = .running → s.isRole .loop = true → detectorPin s.pins d = true →
    ∃ t, exec (.detectorInactive d) s = .next t
      ∧ ((s.det.unit d).fault = true → s.port.queue.length ≤ 15 →
          ⟨.detectorFault, s.ownSlot, s.runId, s.eventBlock (detectorPosition s.params d), 0, s.clock⟩ ∈ t.port.queue)
      ∧ Settled { s with pins := setDetectorPin false d s.pins, det := s.det.setUnit d ⟨none, false⟩ } t)
  ∧ ∀ (s : State) (d : Detector), s.phase = .running → (s.det.unit d).stuckTimer.isSome = true →
    ∃ t, exec (.stuckTimerExpiry d) s = .next t
      ∧ (s.port.queue.length ≤ 15 →
          ⟨.detectorFault, s.ownSlot, s.runId, s.eventBlock (detectorPosition s.params d), 1, s.clock⟩ ∈ t.port.queue)
      ∧ Settled { s with det := s.det.setUnit d ⟨none, true⟩ } t

/-! ### Peer table and line interface -/

/-- The supervision estimate and the spread of the estimates that entered (R73). -/
def Obligations.SupervisionEstimateIsTheLeastFavourable : Prop :=
  (∀ dir, (formSup dir []).est = none ∧ (formSup dir []).spread = 0)
  ∧ ∀ (dir : Option Dir) (es : List Entered), es ≠ [] → ∃ x v, (formSup dir es).est = some (x, v)
    ∧ (dir = some .up → (∃ e ∈ es, e.x = x) ∧ (∀ e ∈ es, e.x ≤ x)
        ∧ (∃ e ∈ es, magnitude e.v = v) ∧ ∀ e ∈ es, magnitude e.v ≤ v)
    ∧ (dir = some .down → (∃ e ∈ es, e.x = x) ∧ (∀ e ∈ es, x ≤ e.x)
        ∧ (∃ e ∈ es, -magnitude e.v = v) ∧ ∀ e ∈ es, magnitude e.v ≤ -v)
    ∧ (dir = none → (∀ e, es.find? (fun e => e.role == .drive) = some e → x = e.x)
        ∧ ((∀ e ∈ es, e.role ≠ .drive) → (∃ e ∈ es, e.x = x) ∧ ∀ e ∈ es, e.x ≤ x)
        ∧ (∃ e ∈ es, e.v = v) ∧ (∀ e ∈ es, magnitude e.v ≤ magnitude v)
        ∧ ∀ e ∈ es, magnitude e.v = magnitude v → e.v ≤ v)
    ∧ ∃ lo ∈ es, ∃ hi ∈ es, (∀ e ∈ es, lo.x ≤ e.x ∧ e.x ≤ hi.x) ∧ (formSup dir es).spread = hi.x - lo.x

/-- At LOOP and WAYSIDE the recomputation timer restarts and the estimate is formed from the fresh peers (R74). The traversal record follows
it: checked, completed with the block PROVEN where it is clean, abandoned, or opened at a crossing (R8 to R10), here with a spread that
calls for no unproving. At every recomputation a spread above tol_warn unproves the block of x_sup, and one above tol_trip asks for RECON
(R75), before the evaluation and the berthing target (log 51). The own estimate and those of PRESENT records enter (R72), a record's
extrapolated by its age and rounded by the run direction (R71). That its clean flag looks at the spread and the qualities alone is the
model's choice (log 33), and so is that a record ended by an unproving is emptied (log 10), and that one which opens already within W of the
line's end stands until the next recomputation (log 60). On a loop leg the berthing target follows the offsets until it freezes (R119 to
R121). The expiry is taken while its timer runs (log 2). -/
def Obligations.RecomputationFormsTheEstimate : Prop :=
  (∀ s : State, s.phase = .running → s.isRole .loop = true ∨ s.isRole .wayside = true → s.peerCtl.recompTimer.isSome = true →
    ∃ t, exec .recomputationTimerExpiry s = .next t ∧ t.sup = formSup s.runDir s.enteredAll
      ∧ Settled { s with peerCtl := { s.peerCtl with recompTimer := startTimer s.params.tSamp } } t)
  ∧ (∀ (s : State) (dir : Dir) (x v : Int), s.phase = .running → s.isRole .loop = true ∨ s.isRole .wayside = true →
    s.peerCtl.recompTimer.isSome = true → s.runDir = some dir → (formSup (some dir) s.enteredAll).est = some (x, v) →
    s.run.state = .moving ∨ s.run.state = .stopping ∨ s.run.state = .held ∨ s.run.state = .dwell →
    let spread := (formSup (some dir) s.enteredAll).spread
    let proving := decide (spread ≤ s.params.tolProve) && s.enteredAll.all (·.confirmed)
    spread ≤ s.params.tolWarn → spread ≤ s.params.tolTrip →
    ∃ t, exec .recomputationTimerExpiry s = .next t
      ∧ (∀ tr, s.profile.traversal = some tr →
          let clean := tr.clean && proving
          let far := dir = .up ∧ (tr.block < s.blockOf x ∨ (tr.block + 1 = s.blocks.length ∧ s.params.L - x ≤ s.params.W))
            ∨ dir = .down ∧ (s.blockOf x < tr.block ∨ (tr.block = 0 ∧ x ≤ s.params.W))
          (far → clean = true → t.profile.proof = s.profile.proof ||| (1#64 <<< tr.block)
            ∧ (s.proven tr.block = false → s.port.queue.length ≤ 15 →
                ⟨.blockProven, s.ownSlot, s.runId, some tr.block, max tr.greatest spread, s.clock⟩ ∈ t.port.queue))
          ∧ (¬far ∨ clean = false → t.profile.proof = s.profile.proof)
          ∧ (¬far → s.blockOf x = tr.block → (∀ old, s.sup.est.map (·.1) = some old → s.blockOf old = tr.block) →
              t.tripAsserted = true ∨ t.profile.traversal = some { tr with clean := clean, greatest := max tr.greatest spread })
          ∧ (far ∨ s.blockOf x ≠ tr.block → (∀ old, s.sup.est.map (·.1) = some old → s.blockOf old = s.blockOf x) →
              t.profile.traversal = none))
      ∧ (s.profile.traversal = none → t.profile.proof = s.profile.proof)
      ∧ ∀ old, s.sup.est.map (·.1) = some old →
          (dir = .up → s.blockOf old < s.blockOf x → t.tripAsserted = true
            ∨ t.profile.traversal = some ⟨s.blockOf x, s.startOf (s.blockOf x), proving, spread⟩)
          ∧ (dir = .down → s.blockOf x < s.blockOf old → t.tripAsserted = true
            ∨ t.profile.traversal = some ⟨s.blockOf x, s.endOf (s.blockOf x), proving, spread⟩))
  ∧ (∀ s : State, s.phase = .running → s.isRole .loop = true ∨ s.isRole .wayside = true → s.peerCtl.recompTimer.isSome = true →
    s.loopLeg = true → s.run.state = .moving ∨ s.run.state = .stopping ∨ s.run.state = .held →
    let es := s.enteredAll
    let off (car : Role) : Int :=
      match es.find? (fun e => e.role == .drive), es.find? (fun e => e.role == car) with
      | some d, some c => c.x - d.x
      | _, _ => 0
    let cA := s.params.pA - off .carA
    let cB := s.params.pB - off .carB
    let lo := max (cA - s.params.W) (cB - s.params.W)
    let hi := min (cA + s.params.W) (cB + s.params.W)
    let target := if lo ≤ hi then floorDiv (lo + hi) 2 else floorDiv (cA + cB) 2
    ∃ t, exec .recomputationTimerExpiry s = .next t
      ∧ (s.run.run.berthFrozen = true → t.tripAsserted = true ∨ (t.run.run.berth = s.run.run.berth
          ∧ t.run.run.berthFrozen = true ∧ t.run.run.misaligned = s.run.run.misaligned))
      ∧ (s.run.run.berthFrozen = false →
          ((formSup s.runDir es).est = none → t.tripAsserted = true ∨ (t.run.run.berthFrozen = false
            ∧ t.run.run.berth = some (s.run.run.berth.getD s.params.pLoop)))
          ∧ ∀ x v, (formSup s.runDir es).est = some (x, v) →
              (t.tripAsserted = true ∨ (t.run.run.berth = some target
                ∧ (t.run.run.berthFrozen = true ↔ s.dirSgn * (target - x) ≤ s.params.sCreep)
                ∧ (t.run.run.misaligned = true ↔ hi < lo)))
              ∧ (hi < lo → s.run.run.misaligned = false → s.port.queue.length ≤ 13 → t.tripAsserted = true
                  ∨ ⟨.loopMisaligned, s.ownSlot, s.runId, s.eventBlock target, lo - hi, s.clock⟩ ∈ t.port.queue)))
  ∧ (∀ s : State,
    let sup := formSup s.runDir s.enteredAll
    (recompute s).sup = sup ∧ ∀ x v, sup.est = some (x, v) →
      (s.params.tolWarn < sup.spread → (recompute s).proven (s.blockOf x) = false
        ∧ (s.proven (s.blockOf x) = true → s.port.queue.length ≤ 14 →
          ⟨.blockUnproven, s.ownSlot, s.runId, some (s.blockOf x), 1, s.clock⟩ ∈ (recompute s).port.queue))
      ∧ (s.params.tolTrip < sup.spread → s.trips.latch = none →
        (recompute s).trips.latch = some .recon ∧ (recompute s).profile.proof = 0)
      ∧ (sup.spread ≤ s.params.tolTrip → s.trips.latch = none → (recompute s).trips.latch ≠ some .recon))
  ∧ (∀ (s : State) (e : Entered), e ∈ s.enteredAll ↔
    (s.hasEstimate = true ∧ s.pos.quality ≠ .unknown
      ∧ ∃ r, s.role = some r ∧ e = ⟨r, s.pos.x, s.pos.v, s.pos.quality == .confirmed⟩)
    ∨ ∃ i st r, (s.peer i).state = .present ∧ (s.peer i).contents = some st ∧ st.role = some r
      ∧ (r = .drive ∨ r = .carA ∨ r = .carB) ∧ st.quality ≠ .unknown
      ∧ e = ⟨r, s.extrapolate (s.peer i) st s.clock, st.v, st.quality == .confirmed⟩)
  ∧ ∀ (s : State) (r : PeerRecord) (st : Status) (time : Word32), 0 ≤ s.params.tStale →
    let age := max (-s.params.tStale) (min s.params.tStale (time - r.arrival).toInt)
    let term := s.extrapolate r st time - st.x
    let up := st.v * age ≤ term * 1000 ∧ term * 1000 < st.v * age + 1000
    let down := st.v * age - 1000 < term * 1000 ∧ term * 1000 ≤ st.v * age
    (s.runDir = some .up → up) ∧ (s.runDir = some .down → down)
    ∧ (s.runDir = none → (0 ≤ st.v * age → up) ∧ (st.v * age < 0 → down))

/-- What the line interface makes of a frame: an invalid one is discarded, a valid one brings its line UP and takes a silent other
line DOWN, and one of another slot is accepted against the sequence memory, which NONE, LOST and start-up leave open (R51, R53, R56,
R57). Invalid are bytes without their delimiter, with a failed check, an unknown kind, another length than the kind's, or a code
outside its field's (R51, R195, R196). The model's choices in it: that a frame ends the idle state (log 4), that a trip cause must
agree with its flag (log 13), that length and unnamed bits are read as they are (log 14), and that LINE_UP comes before LINE_DOWN (log
35). -/
def Obligations.SequenceMemoryJudgesFrames : Prop :=
  (∀ (s : State) (l : LineId) (bytes : List Byte) (delimited : Bool), s.phase = .running →
    parseFrame bytes delimited = none →
    ∃ t, exec (.frameArrival l bytes delimited) s = .next t ∧ Settled (s.onLine l fun x => { x with idle := false }) t)
  ∧ (∀ (s : State) (l : LineId) (bytes : List Byte) (delimited : Bool) (f : RxFrame), s.phase = .running →
    parseFrame bytes delimited = some f → f.sender ≠ s.ownSlot →
    ∃ t, exec (.frameArrival l bytes delimited) s = .next t
      ∧ (t.line l).up = true ∧ (t.line l).silence = startTimer s.params.tLost
      ∧ (∀ j, j ≠ f.sender → t.rx.seqMem.get j = s.rx.seqMem.get j)
      ∧ (s.rx.seqMem.get f.sender = none → t.rx.seqMem.get f.sender = some f.seq)
      ∧ ∀ m, s.rx.seqMem.get f.sender = some m →
          (1 ≤ (f.seq - m).toNat ∧ (f.seq - m).toNat ≤ 127 → t.rx.seqMem.get f.sender = some f.seq)
          ∧ ((f.seq - m).toNat = 0 ∨ 128 ≤ (f.seq - m).toNat →
              Settled (hearLine l (s.onLine l fun x => { x with idle := false })) t))
  ∧ (∀ (s : State) (i : Slot), s.phase = .running → (s.peer i).lostTimer.isSome = true →
    (s.peer i).state = .stale ∨ (s.peer i).state = .excluded →
    ∃ t, exec (.lostTimerExpiry i) s = .next t ∧ t.rx.seqMem.get i = none)
  ∧ (∀ (s : State) (img : List Byte) (pins : PlantPins), s.phase = .loading →
    ∃ t, exec (.startUpComplete img pins) s = .next t ∧ ∀ i, t.rx.seqMem.get i = none)
  ∧ (∀ (s : State) (l : LineId) (bytes : List Byte) (delimited : Bool) (f : RxFrame), s.phase = .running →
    parseFrame bytes delimited = some f →
    ∃ t, exec (.frameArrival l bytes delimited) s = .next t
      ∧ (t.line l).up = true ∧ (t.line l).silence = startTimer s.params.tLost
      ∧ ((t.line (otherLine l)).up = true ↔
          (s.line (otherLine l)).up = true ∧ timerRuns (s.line (otherLine l)).silence = true)
      ∧ (t.line (otherLine l)).silence = (s.line (otherLine l)).silence
      ∧ ((s.line l).up = false → s.port.queue.length ≤ 15 →
          ⟨.lineUp, s.ownSlot, s.runId, none, (lineNumber l : Int), s.clock⟩ ∈ t.port.queue)
      ∧ ((s.line (otherLine l)).up = true → timerRuns (s.line (otherLine l)).silence = false → s.port.queue.length ≤ 14 →
          ⟨.lineDown, s.ownSlot, s.runId, none, (lineNumber (otherLine l) : Int), s.clock⟩ ∈ t.port.queue))
  ∧ ∀ (bytes : List Byte) (delimited : Bool),
    let b (i : Nat) : Nat := (byteAt bytes i).toNat
    let kind := b 1 / 16
    let fixed := [32, 5, 6, 2, 7, 3, 2, 2, 2, 1]
    let badStatus := 2 < b 4 / 8 % 4 ∨ 8 < b 8 % 16 ∨ 8 < b 11 % 16 ∨ 8 < b 11 / 16
      ∨ (b 5 / 2 % 2 = 1 ∧ (b 20 = 0 ∨ 9 < b 20)) ∨ (b 5 / 2 % 2 = 0 ∧ b 20 ≠ 0)
    delimited = false ∨ checkPasses bytes = false ∨ kind = 0 ∨ 10 < kind ∨ fixed[kind - 1]? ≠ some (b 3 % 64)
        ∨ bytes.length ≠ b 3 % 64 + 6
        ∨ (kind = 1 ∧ badStatus) ∨ (2 ≤ kind ∧ kind ≤ 9 ∧ 7 < b 4)
        ∨ (kind = 2 ∧ ((b 6 ≠ 1 ∧ b 6 ≠ 2) ∨ (b 7 ≠ 1 ∧ b 7 ≠ 2) ∨ 1 < b 8))
        ∨ (kind = 5 ∧ 7 < b 6) ∨ (kind = 6 ∧ (b 6 = 0 ∨ 6 < b 6)) ∨ (kind = 10 ∧ (b 4 = 0 ∨ 9 < b 4)) ↔
      parseFrame bytes delimited = none

/-- A frame with the own slot raises the slot conflict and is delivered to no block: its kind and contents change nothing of what
follows (R52). -/
def Obligations.OwnSlotFrameRaisesTheConflict : Prop :=
  (∀ (s : State) (l : LineId) (bytes bytes' : List Byte) (f f' : RxFrame), s.phase = .running →
    parseFrame bytes true = some f → parseFrame bytes' true = some f' → f.sender = s.ownSlot → f'.sender = s.ownSlot →
    exec (.frameArrival l bytes true) s = exec (.frameArrival l bytes' true) s)
  ∧ ∀ (s : State) (l : LineId) (bytes : List Byte) (delimited : Bool) (f : RxFrame), s.phase = .running →
    parseFrame bytes delimited = some f → f.sender = s.ownSlot →
    ∃ t, exec (.frameArrival l bytes delimited) s = .next t ∧ t.rx.slotConflict = true ∧ t.rx.seqMem = s.rx.seqMem
      ∧ t.peers = s.peers ∧ t.trips.origins = s.trips.origins ∧ t.profile.restrictions = s.profile.restrictions
      ∧ t.pos = s.pos
      ∧ (s.rx.slotConflict = false → s.port.queue.length ≤ 13 →
          ⟨.slotConflict, s.ownSlot, s.runId, none, (lineNumber l : Int), s.clock⟩ ∈ t.port.queue)

/-- An accepted STATUS renews the sender's record with the exclusion cause of R62, excludes another claimant of its role (R63), with their
events (R66), and hands on its trip part and its restriction entry (R62, R17, R171). A car's new marker fault unproves its block (R11); a
car without a position adopts the drive's (R30), and the two cars confirm the DRIVE's (R29). A claim on the own role raises ROLE_CONFLICT
and withholds the consent, and the condition ends with the last claim (R64; log 12). The DRIVE's consent view takes the consent of a PRESENT
record, and none of an EXCLUDED one (R80, R97). A sender that its trip flag brings into the origin set is reported by TRIP_REMOTE and enters
the station in TRIPPED, its run ended but for its identity; one that leaves the set is reported by TRIP_CLEARED with the cause it last held,
and with the last one TRIPPED ends (R169, R171, R172; a rejoin at that moment is log 16). A monitor that awaits a quality chooses its
expectation from the position adopted (R31); the count origin of that position is the reading on the pins (log 3). The order of its parts is
the model's choice (log 9); a faulted station holds no restriction list (log 15). -/
def Obligations.AcceptedStatusRenewsTheRecord : Prop :=
  ∀ (s : State) (l : LineId) (bytes : List Byte) (delimited : Bool) (f : RxFrame) (st : Status), s.phase = .running →
    parseFrame bytes delimited = some f → f.body = .status st → f.sender ≠ s.ownSlot →
    accepts (s.rx.seqMem.get f.sender) f.seq = true →
    ∃ t, exec (.frameArrival l bytes delimited) s = .next t
      ∧ (t.peer f.sender).contents = some st ∧ (t.peer f.sender).arrival = s.clock
      ∧ (t.peer f.sender).staleTimer = startTimer s.params.tStale ∧ (t.peer f.sender).lostTimer = startTimer s.params.tLost
      ∧ (st.role = none ∨ st.profileId ≠ s.loader.profileId ∨ st.fault = true ∨ s.configFault = true →
          (t.peer f.sender).state = .excluded ∧ (t.peer f.sender).exclusion = .profile)
      ∧ (∀ r, st.role = some r → st.profileId = s.loader.profileId → st.fault = false → s.configFault = false →
          (r ≠ .wayside → s.role = some r ∨ (∃ j, j ≠ f.sender ∧ j ≠ s.ownSlot ∧ (s.peer j).liveClaim r = true) →
            (t.peer f.sender).state = .excluded ∧ (t.peer f.sender).exclusion = .role)
          ∧ (r = .wayside ∨ (s.role ≠ some r ∧ ∀ j, j ≠ f.sender → j ≠ s.ownSlot → (s.peer j).liveClaim r = false) →
            (t.peer f.sender).state = .present ∧ (t.peer f.sender).exclusion = .none))
      ∧ (s.port.queue.length ≤ 13 →
          ((t.peer f.sender).state = .present → (s.peer f.sender).state ≠ .present →
            ⟨.peerPresent, f.sender, s.runId, none, ((s.peer f.sender).state.code : Int), s.clock⟩ ∈ t.port.queue)
          ∧ ((t.peer f.sender).state = .excluded → (s.peer f.sender).state ≠ .excluded →
            ⟨.peerExcluded, f.sender, s.runId, none, ((t.peer f.sender).exclusion.code : Int), s.clock⟩ ∈ t.port.queue))
      ∧ (∀ j, j ≠ f.sender →
          let rival := j ≠ s.ownSlot ∧ (s.peer j).state = .present ∧ (t.peer f.sender).exclusion = .role
            ∧ ∃ r, st.role = some r ∧ (s.peer j).liveClaim r = true
          (rival → t.peer j = { s.peer j with state := .excluded, exclusion := .role }
            ∧ (s.port.queue.length ≤ 6 →
              ⟨.peerExcluded, j, s.runId, none, (Exclusion.role.code : Int), s.clock⟩ ∈ t.port.queue))
          ∧ (¬rival → t.peer j = s.peer j))
      ∧ (∀ k, st.faultBlock = some k → st.role = some .carA ∨ st.role = some .carB → k < s.blocks.length →
          (s.peer f.sender).state = .absent ∨ (s.peer f.sender).state = .lost
            ∨ (∀ c, (s.peer f.sender).contents = some c → c.faultBlock ≠ some k) →
          t.proven k = false
          ∧ (s.proven k = true → s.port.queue.length ≤ 3 → (∀ l, (s.line l).queue.length ≤ 6) → t.tripAsserted = true
            ∨ ⟨.blockUnproven, f.sender, s.runId, some k, 3, s.clock⟩ ∈ t.port.queue))
      ∧ (s.isDrive = false → (∀ j, j ≠ f.sender → ∀ c, (s.peer j).contents = some c → c.role ≠ some .drive) →
          0 ≤ s.params.tStale →
          let adopts := s.isCar = true ∧ s.pos.quality = .unknown ∧ st.role = some .drive
            ∧ (t.peer f.sender).state = .present ∧ st.quality ≠ .unknown
          (adopts → t.pos = { s.pos with
              um := 1000 * st.x, lastCount := s.pins.counter, x := st.x, v := 0, quality := .unconfirmed
              ring := [(st.x, s.clock)] }
            ∧ (s.marker.armed = true → s.marker.awaiting = true → t.marker.armed = true →
                t.marker.awaiting = false ∧ t.marker.expected = t.nextExpected st.x))
          ∧ (¬adopts → t.pos = s.pos))
      ∧ (s.isDrive = true → t.runDir = s.runDir →
          let confirms (r : Role) : Prop := ∃ d, t.presentWith r = some d ∧ d.2.quality = .confirmed
            ∧ magnitude (s.extrapolate (t.peer d.1) d.2 s.clock - s.pos.x) ≤ s.params.tolProve
          let due := s.pos.quality = .unconfirmed ∧ (st.role = some .carA ∨ st.role = some .carB) ∧ confirms .carA ∧ confirms .carB
          (due → t.pos = { s.pos with quality := .confirmed }) ∧ (¬due → t.pos = s.pos))
      ∧ t.trips.origins.get f.sender = st.trip
      ∧ (∀ c, st.trip = some c →
          t.run.state = .tripped ∧ t.run.run.hdr = s.run.run.hdr ∧ (s.run.state ≠ .tripped → t.run.run.stops = [])
          ∧ (s.trips.origins.get f.sender = none → s.port.queue.length ≤ 3 → (∀ l, (s.line l).queue.length ≤ 6) →
              ⟨.tripRemote, f.sender, s.runId, none, (c.code : Int), s.clock⟩ ∈ t.port.queue)
          ∧ (s.trips.origins.get f.sender ≠ none → ∀ e ∈ t.port.queue, e.kind = .tripRemote → e ∈ s.port.queue))
      ∧ (st.trip = none →
          (∀ c, s.trips.origins.get f.sender = some c → s.port.queue.length ≤ 3 → (∀ l, (s.line l).queue.length ≤ 6) →
              ⟨.tripCleared, f.sender, s.runId, none, (c.code : Int), s.clock⟩ ∈ t.port.queue)
          ∧ (s.trips.origins.get f.sender = none → ∀ e ∈ t.port.queue, e.kind = .tripCleared → e ∈ s.port.queue)
          ∧ (s.trips.origins.get f.sender ≠ none → s.run.state = .tripped → s.trips.latch = none →
              (∀ j, j ≠ f.sender → s.trips.origins.get j = none) →
              s.isDrive = true ∨ (∀ d, t.driveRecord = some d →
                d.2.runState ≠ .moving ∧ d.2.runState ≠ .stopping ∧ d.2.runState ≠ .dwell) →
              t.tripAsserted = true ∨ (t.run.state = .idle ∧ t.run.run.hdr = none)))
      ∧ (∀ j, j ≠ f.sender → t.trips.origins.get j = s.trips.origins.get j
          ∧ t.profile.restrictions.get j = s.profile.restrictions.get j)
      ∧ (s.configFault = false → t.profile.restrictions.get f.sender = st.restriction.map fun r =>
          { r with count := min r.count s.blocks.length, speed := max s.params.vCreep (min s.params.vMax r.speed) })
      ∧ (∀ r, st.role = some r → s.role = some r → r ≠ .wayside → st.profileId = s.loader.profileId → st.fault = false →
          s.configFault = false → t.peerCtl.roleConflict = true ∧ t.consent = none ∧ t.own.status.consent = none
          ∧ (s.peerCtl.roleConflict = false → s.port.queue.length ≤ 6 →
              ⟨.roleConflict, f.sender, s.runId, none, 1, s.clock⟩ ∈ t.port.queue))
      ∧ (st.role ≠ s.role →
          (t.peerCtl.roleConflict = true ↔ s.peerCtl.roleConflict = true ∧ s.stillClaimed f.sender)
          ∧ (s.peerCtl.roleConflict = true → t.peerCtl.roleConflict = false → s.port.queue.length ≤ 6 →
              ⟨.roleConflict, f.sender, s.runId, none, 0, s.clock⟩ ∈ t.port.queue))
      ∧ (s.isDrive = true → t.tripAsserted = true ∨ t.run.state = .idle
          ∨ t.run.run.consents.get f.sender = if (t.peer f.sender).state = .present then st.consentsTo else none)

/-- A TRIP frame enters the sender in the origin set, with TRIP_REMOTE where it is new there, and the station in TRIPPED; RECON costs
every block its proof (R171, R12). The entry to TRIPPED ends the run but for its identity, and a tracked command completes with TRIPPED
(R169). -/
def Obligations.TripFrameEntersTheOriginSet : Prop :=
  ∀ (s : State) (l : LineId) (bytes : List Byte) (delimited : Bool) (f : RxFrame) (c : TripCause), s.phase = .running →
    parseFrame bytes delimited = some f → f.body = .trip c → f.sender ≠ s.ownSlot →
    accepts (s.rx.seqMem.get f.sender) f.seq = true →
    ∃ t, exec (.frameArrival l bytes delimited) s = .next t
      ∧ t.trips.origins.get f.sender = some c ∧ t.run.state = .tripped
      ∧ (∀ j, j ≠ f.sender → t.trips.origins.get j = s.trips.origins.get j ∧ t.peer j = s.peer j)
      ∧ t.peer f.sender = { s.peer f.sender with
          contents := (s.peer f.sender).contents.map fun st => { st with trip := some c } }
      ∧ (c = .recon → s.trips.origins.get f.sender ≠ some .recon → t.profile.proof = 0)
      ∧ (s.trips.origins.get f.sender = none → s.port.queue.length ≤ 13 →
          ⟨.tripRemote, f.sender, s.runId, none, (c.code : Int), s.clock⟩ ∈ t.port.queue)
      ∧ (s.trips.origins.get f.sender ≠ none → ∀ e ∈ t.port.queue, e.kind = .tripRemote → e ∈ s.port.queue)
      ∧ (s.run.state ≠ .tripped → s.endedByTrip t ∧ s.completedWith t .tripped)
      ∧ t.pos = s.pos ∧ t.profile.restrictions = s.profile.restrictions

/-- A RUN_OPEN is taken in IDLE, and in DISPATCH and AWAIT_GO when it wins by origin slot or counter, the run held before abandoned;
otherwise the run held stays, and in every other run state the frame is ignored (R83, R86 to R88). That the loop is looked for ahead of
the estimate from before the run's direction is gained is the model's choice (log 11): in IDLE the one that stands, in contention the one
that the abandonment recomputes without a run (R74). A RUN_GO of another run in DISPATCH and AWAIT_GO abandons the run held likewise, and
the station joins the run where the drive's record shows it (R100, R122, R123); the drive's STATUS in IDLE closes a run in AWAIT_GO with
NO_DRIVE, and leaves one in DISPATCH (R100). At a line at rest no trip follows. A run frame from a sender whose record is ABSENT or
EXCLUDED, or for RUN_GO and RUN_CLOSE not the DRIVE's, or one in the listen period or in CONFIG_FAULT, is not taken: nothing follows but
what every accepted frame brings (R83). The abandonment empties the consent view (R80, R88); that a run opened from IDLE leaves it as
it stood is the model's reading (log 38). -/
def Obligations.RunOpenContention : Prop :=
  (∀ (s : State) (l : LineId) (bytes : List Byte) (delimited : Bool) (f : RxFrame) (id : RunId) (kind : RunKind) (dir : Dir)
    (loopStop : Bool), s.phase = .running → parseFrame bytes delimited = some f → f.body = .runOpen id kind dir loopStop →
    f.sender ≠ s.ownSlot → accepts (s.rx.seqMem.get f.sender) f.seq = true → s.configFault = false → s.listening = false →
    (s.peer f.sender).state = .present ∨ (s.peer f.sender).state = .stale ∨ (s.peer f.sender).state = .lost →
    ∃ t, exec (.frameArrival l bytes delimited) s = .next t
      ∧ (s.AtRest → s.inMotion = false → s.run.state ≠ .awaitGo → s.run.state ≠ .dwell → s.run.state ≠ .held →
          t.tripAsserted = false)
      ∧ (s.AtRest → s.isDrive = false → s.inMotion = false → t.tripAsserted = false)
      ∧ (s.run.state = .moving ∨ s.run.state = .stopping ∨ s.run.state = .held ∨ s.run.state = .dwell ∨ s.run.state = .arrived
          ∨ s.run.state = .tripped → t = s.ignoring l f)
      ∧ (s.run.state = .idle →
          (t.tripAsserted = true ∨ (t.hasOpened s.sup.est id kind dir loopStop ∧ t.run.run.consents = s.run.run.consents))
          ∧ (s.port.queue.length ≤ 13 →
            ⟨.runOpened, id.origin, some id, none, runOpenedValue kind dir loopStop, s.clock⟩ ∈ t.port.queue))
      ∧ ∀ cur, s.runId = some cur → s.run.state = .dispatch ∨ s.run.state = .awaitGo →
          (id.origin < cur.origin
              ∨ (id.origin = cur.origin ∧ 1 ≤ (id.counter - cur.counter).toNat ∧ (id.counter - cur.counter).toNat ≤ 127) →
            t.tripAsserted = true ∨ (t.hasOpened (formSup none s.enteredAll).est id kind dir loopStop
              ∧ t.run.run.consents = Vector.replicate 8 none
              ∧ (s.port.queue.length ≤ 8 →
                  ⟨.runClosed, id.origin, some cur, none, 8, s.clock⟩ ∈ t.port.queue)
              ∧ (s.port.queue.length ≤ 8 → (∀ l, (s.line l).queue.length ≤ 6) →
                  ⟨.runOpened, id.origin, some id, none, runOpenedValue kind dir loopStop, s.clock⟩ ∈ t.port.queue)
              ∧ (s.port.busy = true → s.port.code = 1 →
                  t.port.busy = false ∧ t.port.result = .refusedContention)))
          ∧ (cur.origin < id.origin
              ∨ (id.origin = cur.origin ∧ ((id.counter - cur.counter).toNat = 0 ∨ 128 ≤ (id.counter - cur.counter).toNat)) →
            t.run.run.hdr = s.run.run.hdr))
  ∧ (∀ (s : State) (l : LineId) (bytes : List Byte) (delimited : Bool) (f : RxFrame), s.Accepts bytes delimited f →
    let barred := s.configFault = true ∨ s.listening = true ∨ (s.peer f.sender).state = .absent
      ∨ (s.peer f.sender).state = .excluded
    let noDrive := ∀ c, (s.peer f.sender).contents = some c → c.role ≠ some .drive
    let notTaken := match f.body with
      | .runOpen .. | .addStop .. | .loopCall _ => barred
      | .runGo .. | .runClose .. => barred ∨ noDrive
      | _ => False
    notTaken → exec (.frameArrival l bytes delimited) s = .next (s.ignoring l f))
  ∧ (∀ (s : State) (l : LineId) (bytes : List Byte) (delimited : Bool) (f : RxFrame) (id cur : RunId) (leg : Nat) (target : Int),
    s.Accepts bytes delimited f → f.body = .runGo id leg target → s.takesRunFrames = true →
    (s.peer f.sender).knownDrive = true → s.role ≠ none → s.isDrive = false → s.tripAsserted = false →
    s.run.state = .dispatch ∨ s.run.state = .awaitGo → s.runId = some cur → id ≠ cur →
    ∃ t, exec (.frameArrival l bytes delimited) s = .next t
      ∧ (s.port.queue.length ≤ 13 → ⟨.runClosed, id.origin, some cur, none, 8, s.clock⟩ ∈ t.port.queue)
      ∧ (s.port.busy = true → s.port.code = 1 → t.port.busy = false ∧ t.port.result = .refusedContention)
      ∧ ((∀ j st, s.driveRecord = some (j, st) → st.runId ≠ some id) →
          t.tripAsserted = true ∨ (t.run.state = .idle ∧ t.run.run = RunRecord.empty))
      ∧ ∀ j st, s.driveRecord = some (j, st) → st.runId = some id →
          t.tripAsserted = true ∨ (t.run.state = .moving ∧ t.hasJoined id st leg target .pending
            ∧ (s.isCar = true → t.monitorArmed)
            ∧ (s.port.queue.length ≤ 8 → (∀ l, (s.line l).queue.length ≤ 6) → ∃ k,
              ⟨.runCommitted, id.origin, some id, some k, ((leg * 256 : Nat) : Int), s.clock⟩ ∈ t.port.queue)))
  ∧ ∀ (s : State) (l : LineId) (bytes : List Byte) (delimited : Bool) (f : RxFrame) (st : Status),
    s.HearsDrive bytes delimited f st → st.runState = .idle →
    ∃ t, exec (.frameArrival l bytes delimited) s = .next t
      ∧ (s.run.state = .awaitGo → t.tripAsserted = true ∨ (t.run.state = .idle ∧ t.run.run = RunRecord.empty
          ∧ (s.port.queue.length ≤ 8 → ⟨.runClosed, s.ownSlot, s.runId, none, 7, s.clock⟩ ∈ t.port.queue)
          ∧ (s.port.busy = true → s.port.code = 1 → t.port.busy = false ∧ t.port.result = .closed .noDrive)))
      ∧ (s.run.state = .dispatch → t.tripAsserted = true ∨ (t.run.state = .dispatch ∧ t.run.run.hdr = s.run.run.hdr
          ∧ t.run.run.stops = s.run.run.stops ∧ t.run.run.dispatchTimer = s.run.run.dispatchTimer))

/-- The idle state of a line, and a frame that completes, loses arbitration or is read back wrong (R42, R48 to R50); a STATUS that
a newer one waits behind gives way to it (log 29). -/
def Obligations.LineEventsMoveTheFrameSent : Prop :=
  (∀ (s : State) (l : LineId), s.phase = .running →
    exec (.lineIdle l) s = .next (s.onLine l fun x => { x with idle := true })
    ∧ exec (.lineStartBit l) s = .next (s.onLine l fun x => { x with idle := false }))
  ∧ ∀ (s : State) (l : LineId) (pre post : List TxFrame) (g : TxFrame), s.phase = .running →
    (s.line l).queue = pre ++ g :: post → g.sending = true → (∀ h ∈ pre ++ post, h.sending = false) →
    exec (.txComplete l) s = .next (s.onLine l fun x => { x with queue := pre ++ post })
    ∧ ((g.body.isStatus = true → waitingStatus (pre ++ post) = false) →
        exec (.arbitrationLost l) s
            = .next (s.onLine l fun x => { x with queue := pre ++ { g with sending := false } :: post })
        ∧ exec (.readbackDisagreement l) s
            = .next (s.onLine l fun x => { x with queue := pre ++ { g with sending := false } :: post }))
    ∧ (g.body.isStatus = true → waitingStatus (pre ++ post) = true →
        exec (.arbitrationLost l) s = .next (s.onLine l fun x => { x with queue := pre ++ post })
        ∧ exec (.readbackDisagreement l) s = .next (s.onLine l fun x => { x with queue := pre ++ post }))

/-- On an idle line the first waiting frame begins with its number, taken from the counter if it has none and shared with its copy
(R45, R48), and its coded levels are what the station drives (R42; log 58); otherwise nothing begins. -/
def Obligations.TxStartTakesTheNumber : Prop :=
  (∀ (s : State) (l : LineId) (g : TxFrame) (rest : List TxFrame), s.phase = .running → (s.line l).idle = true →
    (s.line l).queue = g :: rest → (∀ h ∈ g :: rest, h.sending = false) →
    ∃ t, exec (.txStart l) s = .next t ∧ (t.line l).idle = false
      ∧ (t.line l).queue = { g with sending := true, seq := some (g.seq.getD s.rx.seqCounter) } :: rest
      ∧ t.drivenLevels l = frameLevels (frameBytes s.ownSlot (g.seq.getD s.rx.seqCounter) g.body)
      ∧ (t.line (otherLine l)).queue = (s.line (otherLine l)).queue.map (fun h =>
          if h.ident = g.ident ∧ h.seq = none then { h with seq := some (g.seq.getD s.rx.seqCounter) } else h)
      ∧ (g.seq = none → t.rx.seqCounter = s.rx.seqCounter + 1) ∧ (g.seq ≠ none → t.rx.seqCounter = s.rx.seqCounter)
      ∧ t.run = s.run ∧ t.port = s.port ∧ t.peers = s.peers ∧ t.pos = s.pos ∧ t.trips = s.trips)
  ∧ ∀ (s : State) (l : LineId), s.phase = .running →
    (s.line l).idle = false ∨ (s.line l).queue = [] ∨ (∃ h ∈ (s.line l).queue, h.sending = true) →
    exec (.txStart l) s = .next s

/-- A silence timer that runs out while the other line's runs takes its line DOWN (R56). The expiry is taken while its timer
runs (log 2). -/
def Obligations.SilentLineGoesDown : Prop :=
  ∀ (s : State) (l : LineId), s.phase = .running → (s.line l).silence.isSome = true →
    ∃ t, exec (.silenceTimerExpiry l) s = .next t ∧ (t.line l).silence = none
      ∧ ((t.line l).up = true ↔ (s.line l).up = true ∧ timerRuns (s.line (otherLine l)).silence = false)
      ∧ (t.line (otherLine l)).up = (s.line (otherLine l)).up
      ∧ (t.line (otherLine l)).silence = (s.line (otherLine l)).silence
      ∧ ((s.line l).up = true → timerRuns (s.line (otherLine l)).silence = true → s.port.queue.length ≤ 15 →
          ⟨.lineDown, s.ownSlot, s.runId, none, (lineNumber l : Int), s.clock⟩ ∈ t.port.queue)
      ∧ t.peers = s.peers ∧ t.pos = s.pos ∧ t.rx.seqMem = s.rx.seqMem

/-- The freshness timers: PRESENT becomes STALE, STALE and EXCLUDED become LOST, with their events (R61, R65, R66). A required role's record
lost from STALE makes an implicit hold, with a HOLD frame where the own hold flag rises, and no other lost record does (R145, R149). A role
conflict ends with the last live claim on the own role (R64; log 12). A record that leaves PRESENT drops out of the consent view (R68, R97).
The expiries are taken while their timers run (log 2); the exclusion cause of a LOST record is the model's choice (log 37). -/
def Obligations.FreshnessTimersAgeTheRecord : Prop :=
  (∀ (s : State) (i : Slot), s.phase = .running → (s.peer i).staleTimer.isSome = true →
    ∃ t, exec (.staleTimerExpiry i) s = .next t
      ∧ t.peer i = { s.peer i with
          staleTimer := none, state := if (s.peer i).state = .present then .stale else (s.peer i).state }
      ∧ (∀ j, j ≠ i → t.peer j = s.peer j)
      ∧ ((s.peer i).state = .present → s.port.queue.length ≤ 15 →
          ⟨.peerStale, i, s.runId, none, 0, s.clock⟩ ∈ t.port.queue)
      ∧ ((s.peer i).state = .present → t.run.run.consents.get i = none)
      ∧ (t.peerCtl.roleConflict = true ↔ s.peerCtl.roleConflict = true ∧ s.stillClaimed i)
      ∧ (s.peerCtl.roleConflict = true → t.peerCtl.roleConflict = false → s.port.queue.length ≤ 14 →
          ⟨.roleConflict, i, s.runId, none, 0, s.clock⟩ ∈ t.port.queue)
      ∧ t.pos = s.pos ∧ t.trips.origins = s.trips.origins ∧ t.rx.seqMem = s.rx.seqMem)
  ∧ (∀ (s : State) (i : Slot) (st : Status) (r : Role), s.phase = .running → (s.peer i).lostTimer.isSome = true →
    (s.peer i).contents = some st → st.role = some r →
    let waits := s.run.state = .dispatch ∨ s.run.state = .awaitGo ∨ s.run.state = .held ∨ s.run.state = .dwell
    let required := r = .carA ∨ r = .carB ∨ (r = .loop ∧ s.params.loopFitted = 1)
    ∃ t, exec (.lostTimerExpiry i) s = .next t
      ∧ ((s.peer i).state = .stale → required → s.configFault = false →
          waits ∨ s.run.state = .moving ∨ s.run.state = .stopping → s.run.run.abortPending = false →
          t.tripAsserted = true
          ∨ (t.run.run.holds.get i = some ((s.run.run.holds.get i).getD true)
            ∧ (s.run.state = .moving ∨ s.run.state = .stopping → t.run.state = .stopping ∨ t.run.state = .held)))
      ∧ ((s.peer i).state = .stale → required → s.configFault = false →
          waits ∨ s.run.state = .moving ∨ s.run.state = .stopping → s.holdFlag = false → s.run.run.holds.get i = none →
          s.listening = false → ∀ id, s.runId = some id → ∀ l, t.carries l (.hold id))
      ∧ ((s.peer i).state = .excluded ∨ ((s.peer i).state = .stale ∧ (¬required ∨ s.run.state = .arrived)) →
          t.tripAsserted = true ∨ t.run.state = .idle ∨ t.run.run.holds = s.run.run.holds))
  ∧ ∀ (s : State) (i : Slot), s.phase = .running → (s.peer i).lostTimer.isSome = true →
    (s.peer i).state = .stale ∨ (s.peer i).state = .excluded →
    ∃ t, exec (.lostTimerExpiry i) s = .next t
      ∧ t.peer i = { s.peer i with state := .lost, exclusion := .none, staleTimer := none, lostTimer := none }
      ∧ (∀ j, j ≠ i → t.peer j = s.peer j ∧ t.rx.seqMem.get j = s.rx.seqMem.get j) ∧ t.rx.seqMem.get i = none
      ∧ (s.port.queue.length ≤ 15 →
          ⟨.peerLost, i, s.runId, none, ((s.peer i).state.code : Int), s.clock⟩ ∈ t.port.queue)
      ∧ (t.peerCtl.roleConflict = true ↔ s.peerCtl.roleConflict = true ∧ s.stillClaimed i)
      ∧ (s.peerCtl.roleConflict = true → t.peerCtl.roleConflict = false → s.port.queue.length ≤ 14 →
          ⟨.roleConflict, i, s.runId, none, 0, s.clock⟩ ∈ t.port.queue)
      ∧ t.pos = s.pos ∧ t.trips.origins = s.trips.origins

/-- The end of the listen period and the expiry of T_status each form a STATUS now and start the timer anew (R69, R194). The own
record is what the STATUS contents of the station are, but for the proof map and what the DRIVE's leg begun at that moment forms, and a
STATUS with those contents waits in each transmit queue with room (R46, R60, R69, R70), the consent the pair of run id and stop count
of R94 (`ConfirmReadySetsTheLatch` states its conditions). At an abort's origin the ABORT goes out again
(R156). A change of the run state, the own hold flag, the trip flag or cause, the consent, the own demand or the loop decision originates
one at once: after every step the own record shows these six as they stand, and a command that changes one of them forms it now, with the
timer anew and the STATUS waiting (R69). The expiries are taken while their timers run (log 2). -/
def Obligations.StatusIsFormedAtListenEndAndTimer : Prop :=
  (∀ s : State, s.phase = .running → s.listening = true →
    ∃ t, exec .listenPeriodExpiry s = .next t ∧ t.listening = false ∧ t.own.formedAt = s.clock
      ∧ t.peerCtl.statusTimer = startTimer s.params.tStatus
      ∧ t.own.status = { t.formStatus with proof := t.own.status.proof } ∧ (∀ l, t.statusWaits l)
      ∧ Settled { s with loader := { s.loader with listenTimer := none } } t)
  ∧ (∀ s : State, s.phase = .running → s.listening = false → s.peerCtl.statusTimer.isSome = true →
    ∃ t, exec .statusTimerExpiry s = .next t ∧ t.own.formedAt = s.clock
      ∧ t.peerCtl.statusTimer = startTimer s.params.tStatus
      ∧ t.own.status = { t.formStatus with proof := t.own.status.proof } ∧ (∀ l, t.statusWaits l)
      ∧ (s.run.run.abortOrigin = true → ∀ id, s.runId = some id → ∀ l, t.carries l (.abort id))
      ∧ Settled s t)
  ∧ (∀ s t : State, s.announcedSound → step s = .next t → t.announcedSound)
  ∧ (∀ (c : Instr) (s t : State), s.phase = .running → s.announcedSound → exec c s = .next t → t.phase = .running →
    t.run.state ≠ s.run.state ∨ t.holdFlag ≠ s.holdFlag ∨ t.trips.latch ≠ s.trips.latch
      ∨ t.formStatus.consentsTo ≠ s.formStatus.consentsTo ∨ t.env.demand ≠ s.env.demand
      ∨ t.run.run.decision ≠ s.run.run.decision →
    t.own.formedAt = s.clock
    ∧ (t.listening = false → t.peerCtl.statusTimer = startTimer s.params.tStatus ∧ ∀ l, t.statusWaits l))
  ∧ ∀ s : State, (s.run.state ≠ .idle → s.formStatus.consentsTo = s.consent.map fun n => (s.runId, n))
    ∧ (s.run.state = .idle → s.formStatus.consentsTo = none)

/-- SET_LOAD by its table, and the load timer (R77). The load in use of a car: its own at the car, elsewhere that of the PRESENT record with
the car's role, known while the load-fresh flag is set (R78). The expiry is taken while its timer runs (log 2). -/
def Obligations.LoadIsTakenClampedAndAges : Prop :=
  (∀ s : State, s.phase = .running →
    let v := (s.port.params.get 0).toInt
    ∃ t, exec .setLoad s = .next t
      ∧ (s.isCar = false → Answered .setLoad .wrongRole s t)
      ∧ (s.isCar = true → s.configFault = true → Answered .setLoad .wrongState s t)
      ∧ (s.isCar = true → s.configFault = false →
          t.port.busy = false ∧ t.port.code = 8 ∧ t.port.unread = true
          ∧ t.car.loadFresh = true ∧ t.car.loadTimer = startTimer s.params.tLoad
          ∧ (0 ≤ v → v ≤ s.params.maxLoad → t.car.load = v.toNat ∧ t.port.result = .done)
          ∧ (v < 0 → t.car.load = 0 ∧ t.port.result = .doneClamped)
          ∧ (0 < v → s.params.maxLoad < v → t.car.load = s.params.maxLoad.toNat ∧ t.port.result = .doneClamped)
          ∧ (∀ r, r.isCar = true → t.isRole r = true → t.loadInUse r = some (t.car.load : Int))
          ∧ t.pos = s.pos ∧ t.peers = s.peers ∧ t.profile.restrictions = s.profile.restrictions))
  ∧ (∀ s : State, s.phase = .running → s.car.loadTimer.isSome = true →
    ∃ t, exec .loadTimerExpiry s = .next t
      ∧ Settled { s with car := { s.car with loadFresh := false, loadTimer := none } } t)
  ∧ (∀ s : State, s.isCar = true → s.formStatus.load = s.car.load ∧ s.formStatus.loadFresh = s.car.loadFresh)
  ∧ (∀ (s : State) (car : Role), car = .carA ∨ car = .carB →
    let shows (i : Slot) (st : Status) : Prop :=
      (s.peer i).state = .present ∧ (s.peer i).contents = some st ∧ st.role = some car
    (s.isRole car = true → s.loadInUse car = if s.car.loadFresh = true then some (s.car.load : Int) else none)
    ∧ (s.isRole car = false →
        ((∀ i st, ¬shows i st) → s.loadInUse car = none)
        ∧ ∀ i st, shows i st → (∀ j c, shows j c → j = i) →
            s.loadInUse car = if st.loadFresh = true then some (st.load : Int) else none))
  ∧ ∀ (s : State) (img : List Byte) (pins : PlantPins), s.phase = .loading →
    ∃ t, exec (.startUpComplete img pins) s = .next t
      ∧ t.car.load = 0 ∧ t.car.loadFresh = false ∧ t.car.loadTimer = none

/-! ### Run controller -/

/-- REQUEST_RUN: the five tests in their order, and the run opened when all pass, with its stop list and RUN_OPENED, and its RUN_OPEN in
each transmit queue with room (R45, R81, R84 to R86, R105); that the loop is looked for ahead of
the estimate from before the direction is gained is the model's choice (log 11), and that no trip follows at a line at rest is an inference
over the model's reactions. -/
def Obligations.RequestRunIsTestedInOrder : Prop :=
  ∀ s : State, s.phase = .running →
    let kind := (s.port.params.get 0).toNat
    let dir := (s.port.params.get 1).toNat
    let flag := (s.port.params.get 2).toNat
    let badWords := (kind ≠ 1 ∧ kind ≠ 2) ∨ (dir ≠ 1 ∧ dir ≠ 2) ∨ (flag ≠ 0 ∧ flag ≠ 1) ∨ (kind = 2 ∧ flag = 1)
    let wrong := s.configFault = true ∨ s.listening = true ∨ (s.run.state ≠ .idle ∧ s.run.state ≠ .tripped)
    let tripped := s.run.state = .tripped ∨ s.trips.latch ≠ none ∨ ∃ i, s.trips.origins.get i ≠ none
    let nowhere := (dir = 1 ∧ s.params.L - s.xSup ≤ s.params.W) ∨ (dir = 2 ∧ s.xSup ≤ s.params.W)
    let id : RunId := ⟨s.ownSlot, s.run.counter + 1⟩
    let k : RunKind := if kind = 1 then .service else .inspection
    let d : Dir := if dir = 1 then .up else .down
    ∃ t, exec .requestRun s = .next t
      ∧ (badWords → Answered .requestRun .outOfRange s t)
      ∧ (¬badWords → wrong → Answered .requestRun .wrongState s t)
      ∧ (¬badWords → ¬wrong → tripped → Answered .requestRun .tripped s t)
      ∧ (¬badWords → ¬wrong → ¬tripped → s.sup.est = none → Answered .requestRun .noPosition s t)
      ∧ (¬badWords → ¬wrong → ¬tripped → s.sup.est ≠ none → nowhere → Answered .requestRun .nothingToDo s t)
      ∧ (¬badWords → ¬wrong → ¬tripped → s.sup.est ≠ none → ¬nowhere →
          t.run.counter = s.run.counter + 1 ∧ t.port.code = 1
          ∧ (∀ l, t.carries l (.runOpen id k d (decide (flag = 1))))
          ∧ (s.AtRest → t.tripAsserted = false)
          ∧ (s.port.queue.length ≤ 12 →
              ⟨.runOpened, s.ownSlot, some id, none, runOpenedValue k d (decide (flag = 1)), s.clock⟩ ∈ t.port.queue)
          ∧ (t.tripAsserted = true ∨ (t.port.busy = true ∧ t.hasOpened s.sup.est id k d (decide (flag = 1)))))

/-- ADD_HALT: the tests in their order; on DONE the position merges or joins the list in run order, the other entries kept, T_disp starts
anew and ADD_STOP goes out (R89, R91, R81).
An ADD_STOP for the current run in DISPATCH that passes the halt test and fits does the same; any other is ignored (R92). -/
def Obligations.AddHaltIsTestedInOrder : Prop :=
  (∀ s : State, s.phase = .running →
    let pos := (s.port.params.get 0).toInt
    let wrong := s.configFault = true ∨ s.run.state = .idle
    let halt := 0 < s.dirSgn * (pos - s.xSup) ∧ 0 < s.dirSgn * (s.terminal - pos)
      ∧ s.params.allowTerminal ≤ pos ∧ pos ≤ s.params.L - s.params.allowTerminal
      ∧ (s.block (s.blockOf pos)).noHalt = false
    let near := ∃ e ∈ s.run.run.stops, magnitude (e.pos - pos) ≤ 2 * s.params.W
    ∃ t, exec .addHalt s = .next t
      ∧ (s.AtRest → s.run.state = .dispatch → t.tripAsserted = false)
      ∧ (wrong → Answered .addHalt .wrongState s t)
      ∧ (¬wrong → s.run.state = .tripped → Answered .addHalt .tripped s t)
      ∧ (¬wrong → s.run.state ≠ .tripped → s.run.state ≠ .dispatch → Answered .addHalt .tooLate s t)
      ∧ (¬wrong → s.run.state = .dispatch → s.isKind .service = true → Answered .addHalt .wrongState s t)
      ∧ (¬wrong → s.run.state = .dispatch → s.isKind .service = false → s.sup.est = none →
          Answered .addHalt .noPosition s t)
      ∧ (¬wrong → s.run.state = .dispatch → s.isKind .service = false → s.sup.est ≠ none →
          (¬halt → Answered .addHalt .outOfRange s t)
          ∧ (halt → near → Answered .addHalt .done s t
              ∧ (∀ id, s.runId = some id → s.listening = false → ∀ l, t.carries l (.addStop id pos))
              ∧ (s.holdsEmpty = true → t.tripAsserted = true ∨ t.run.run.dispatchTimer = startTimer s.params.tDisp)
              ∧ (t.tripAsserted = true ∨ t.run.run.stops = s.run.run.stops))
          ∧ (halt → ¬near → 8 ≤ s.run.run.stops.length → Answered .addHalt .outOfRange s t)
          ∧ (halt → ¬near → s.run.run.stops.length < 8 → Answered .addHalt .done s t
              ∧ (∀ id, s.runId = some id → s.listening = false → ∀ l, t.carries l (.addStop id pos))
              ∧ (s.holdsEmpty = true → t.tripAsserted = true ∨ t.run.run.dispatchTimer = startTimer s.params.tDisp)
              ∧ (t.tripAsserted = true
                ∨ joinsInOrder s.dirSgn ⟨pos, .halt, s.params.allowHalt, .pending⟩ s.run.run.stops t.run.run.stops))))
  ∧ ∀ (s : State) (l : LineId) (bytes : List Byte) (delimited : Bool) (f : RxFrame) (id : RunId) (pos : Int),
    s.Accepts bytes delimited f → f.body = .addStop id pos → s.takesRunFrames = true → (s.peer f.sender).known = true →
    let halt := 0 < s.dirSgn * (pos - s.xSup) ∧ 0 < s.dirSgn * (s.terminal - pos)
      ∧ s.params.allowTerminal ≤ pos ∧ pos ≤ s.params.L - s.params.allowTerminal
      ∧ (s.block (s.blockOf pos)).noHalt = false
    let near := ∃ e ∈ s.run.run.stops, magnitude (e.pos - pos) ≤ 2 * s.params.W
    let taken := s.runId = some id ∧ s.run.state = .dispatch ∧ s.isKind .inspection = true ∧ s.sup.est ≠ none ∧ halt
      ∧ (near ∨ s.run.run.stops.length < 8)
    ∃ t, exec (.frameArrival l bytes delimited) s = .next t
      ∧ (¬taken → t = s.ignoring l f)
      ∧ (taken → (s.AtRest → t.tripAsserted = false)
          ∧ (s.holdsEmpty = true → t.tripAsserted = true ∨ t.run.run.dispatchTimer = startTimer s.params.tDisp)
          ∧ (near → t.tripAsserted = true ∨ t.run.run.stops = s.run.run.stops)
          ∧ (¬near → t.tripAsserted = true
              ∨ joinsInOrder s.dirSgn ⟨pos, .halt, s.params.allowHalt, .pending⟩ s.run.run.stops t.run.run.stops))

/-- CALL_LOOP: the tests of R93 and R116; on DONE in DISPATCH the LOOP entry is in the list, joins it or merges (R81), T_disp starts anew
(R89, R93), and with the decision UNDECIDED the designator is set and the command stays BUSY; LOOP_CALL goes out in both. A LOOP_CALL for
the current SERVICE run adds the entry in DISPATCH or sets the designator, and is ignored elsewhere (R93, R116). The DRIVE takes the
decision at the first sample inside the decision distance (R117); that the decision stands before that sample's speed reference is the
model's choice (log 26), and a run's first computation is left out (log 8). The other stations adopt it from the drive's STATUS (R118; its
place among the parts of a STATUS is log 43). -/
def Obligations.CallLoopIsTestedInOrder : Prop :=
  (∀ s : State, s.phase = .running →
    let wrong := s.configFault = true ∨ s.run.state = .idle
    let later := s.run.state = .moving ∨ s.run.state = .stopping ∨ s.run.state = .held ∨ s.run.state = .dwell
    let reached := ∃ e ∈ s.run.run.stops, e.kind = .loop ∧ e.status = .reached
    ∃ t, exec .callLoop s = .next t
      ∧ (s.AtRest → s.run.state = .dispatch → t.tripAsserted = false)
      ∧ (wrong → Answered .callLoop .wrongState s t)
      ∧ (¬wrong → s.run.state = .tripped → Answered .callLoop .tripped s t)
      ∧ (¬wrong → s.run.state = .awaitGo ∨ s.run.state = .arrived → Answered .callLoop .tooLate s t)
      ∧ (¬wrong → later ∨ s.run.state = .dispatch → s.isKind .inspection = true → Answered .callLoop .wrongState s t)
      ∧ (¬wrong → later → s.isKind .inspection = false →
          (s.run.run.decision = .notApplicable ∨ reached → Answered .callLoop .nothingToDo s t)
          ∧ (¬reached → s.run.run.decision = .pass → Answered .callLoop .tooLate s t)
          ∧ (¬reached → s.run.run.decision = .stop → Answered .callLoop .done s t)
          ∧ (¬reached → s.run.run.decision = .undecided → s.run.run.abortPending = false →
              (∀ id, s.runId = some id → s.listening = false → ∀ l, t.carries l (.loopCall id))
              ∧ (t.tripAsserted = true ∨ (t.run.run.designator = true ∧ t.port.busy = true ∧ t.port.code = 3))))
      ∧ (¬wrong → s.run.state = .dispatch → s.isKind .inspection = false →
          (s.sup.est = none → Answered .callLoop .noPosition s t)
          ∧ (∀ d, s.runDir = some d → s.sup.est ≠ none →
              (d.sgn * (s.params.pLoop - s.xSup) ≤ s.params.W → Answered .callLoop .nothingToDo s t)
              ∧ (s.params.W < d.sgn * (s.params.pLoop - s.xSup) → Answered .callLoop .done s t
                  ∧ (∀ id, s.runId = some id → s.listening = false → ∀ l, t.carries l (.loopCall id))
                  ∧ (s.holdsEmpty = true → t.tripAsserted = true ∨ t.run.run.dispatchTimer = startTimer s.params.tDisp)
                  ∧ (t.tripAsserted = true ∨ s.loopAdded t.run.run.stops)))))
  ∧ (∀ (s : State) (l : LineId) (bytes : List Byte) (delimited : Bool) (f : RxFrame) (id : RunId),
    s.Accepts bytes delimited f → f.body = .loopCall id → s.takesRunFrames = true → (s.peer f.sender).known = true →
    let ours := s.runId = some id ∧ s.isKind .service = true
    let ahead := ∃ d, s.runDir = some d ∧ s.sup.est ≠ none ∧ s.params.W < d.sgn * (s.params.pLoop - s.xSup)
    let later := s.run.state = .moving ∨ s.run.state = .stopping ∨ s.run.state = .held
    ∃ t, exec (.frameArrival l bytes delimited) s = .next t
      ∧ (¬ours ∨ (s.run.state = .dispatch ∧ ¬ahead) ∨ (later ∧ s.run.run.decision ≠ .undecided)
            ∨ (s.run.state ≠ .dispatch ∧ ¬later) → t = s.ignoring l f)
      ∧ (ours → s.run.state = .dispatch → ahead → (s.AtRest → t.tripAsserted = false)
          ∧ (t.tripAsserted = true ∨ s.loopAdded t.run.run.stops)
          ∧ (s.holdsEmpty = true → t.tripAsserted = true ∨ t.run.run.dispatchTimer =
              if ∃ e ∈ t.run.run.stops, e.kind = .loop then startTimer s.params.tDisp else s.run.run.dispatchTimer))
      ∧ (ours → later → s.run.run.decision = .undecided → s.run.run.abortPending = false →
          t.tripAsserted = true ∨ t.run.run.designator = true))
  ∧ (∀ (s : State) (count : Word32) (c : RefCalc), s.phase = .running → s.configFault = false →
    s.pos.sampleTimer.isSome = true → s.isDrive = true →
    s.run.state = .moving ∨ s.run.state = .stopping ∨ s.run.state = .held → s.run.run.decision = .undecided →
    s.ref.shown = some c →
    ∃ t, exec (.sampleTimerExpiry count) s = .next t
      ∧ let ahead := s.dirSgn * (s.params.pLoop - t.pos.x)
        let due := ahead ≤ ceilDiv (t.pos.v ^ 2) (2 * c.aPl) + s.params.sCreep + s.params.mDec
        let stop := s.run.run.designator = true ∧ s.params.W < ahead
        (¬due → t.run.run.decision = .undecided)
        ∧ (due → t.tripAsserted = true
          ∨ ((s.port.queue.length ≤ 8 → ⟨.loopDecided, s.ownSlot, s.runId, some (s.blockOf s.params.pLoop),
                if s.run.run.designator = true ∧ s.params.W < ahead then 1 else 2, s.clock⟩ ∈ t.port.queue)
            ∧ (s.port.busy = true → s.port.code = 3 → t.port.busy = false
              ∧ t.port.result = if s.run.run.designator = true ∧ s.params.W < ahead then .done else .tooLate)
            ∧ (t.run.state = .idle ∨ (t.run.run.designator = false ∧ (¬stop → t.run.run.decision = .pass)
              ∧ (stop → t.run.run.decision = .stop
                ∧ (s.hasLoopEntry = false → merges s.params s.run.run.stops s.params.pLoop = false → s.run.run.stops.length < 8 →
                    0 < s.dirSgn * (s.terminal - s.params.pLoop) →
                    ∃ e ∈ t.run.run.stops, e.kind = .loop ∧ e.pos = s.params.pLoop ∧ e.allowance = s.params.allowLoop)))))))
  ∧ ∀ (s : State) (l : LineId) (bytes : List Byte) (delimited : Bool) (f : RxFrame) (st : Status),
    s.HearsDrive bytes delimited f st → s.run.state = .moving ∨ s.run.state = .held ∨ s.run.state = .dwell →
    s.run.run.decision = .undecided → st.decision = .stop ∨ st.decision = .pass → st.runId = s.runId → st.runState ≠ .idle →
    ∃ t, exec (.frameArrival l bytes delimited) s = .next t
      ∧ (t.tripAsserted = true ∨ (t.run.run.decision = st.decision ∧ t.run.run.designator = false
        ∧ (s.port.queue.length ≤ 8 →
          ⟨.loopDecided, f.sender, s.runId, some (s.blockOf s.params.pLoop), (st.decision.code : Int), s.clock⟩ ∈ t.port.queue)
        ∧ (s.port.busy = true → s.port.code = 3 →
          t.port.busy = false ∧ t.port.result = if st.decision = .stop then .done else .tooLate)
        ∧ (st.decision = .stop → s.hasLoopEntry = false → merges s.params s.run.run.stops s.params.pLoop = false →
            s.run.run.stops.length < 7 ∨ (s.run.state = .moving ∧ s.run.run.stops.length < 8) →
            0 < s.dirSgn * (s.terminal - s.params.pLoop) →
            ∃ e ∈ t.run.run.stops, e.kind = .loop ∧ e.pos = s.params.pLoop ∧ e.allowance = s.params.allowLoop)))

/-- HOLD by its table; in motion the run goes to STOPPING, or on to HELD at line standstill, where the command completes (R146, R150); the
HOLD frame goes out (R145). A HOLD frame for the current run enters its sender, from any record, and any other is ignored (R148); under a
pending abort both enter their slot too, and the run stays in STOPPING or, at the DRIVE at rest, closes (R158). The hold flag of a STATUS
enters its sender likewise where it is set for the current run, and changes no hold where it is set for another (R148). The hold target
formed at the entry to STOPPING is the planned stop point, or lies past the NO_HALT zones it would fall in by W_clear, or is the stop of the
leg where that lies nearer (R5, R151; at a DRIVE before a run's first computation its deceleration is free, log 8). The entry to HELD queues
HELD with the hold set as its mask (R154, R160); the DRIVE makes it at the expiry of T_still too. No step leaves a hold or a transition of
the run state undone (R90, R98, R114, R115, R150, R153 to R155, R158); that the run state's tests are made after every event, that of R158
on the standstill flag among them, is the model's choice (log 59). -/
def Obligations.HoldHoldsTheLine : Prop :=
  (∀ s : State, s.phase = .running →
    let wrong := s.configFault = true ∨ s.run.state = .idle
    ∃ t, exec .hold s = .next t
      ∧ (wrong → Answered .hold .wrongState s t)
      ∧ (¬wrong → s.run.state = .tripped → Answered .hold .tripped s t)
      ∧ (¬wrong → s.run.state = .arrived → Answered .hold .nothingToDo s t)
      ∧ (¬wrong → s.run.state = .dispatch ∨ s.run.state = .awaitGo ∨ s.run.state = .held ∨ s.run.state = .dwell →
          Answered .hold .done s t
          ∧ (∀ id, s.runId = some id → s.listening = false → ∀ l, t.carries l (.hold id))
          ∧ (s.AtRest → t.tripAsserted = false)
          ∧ (t.tripAsserted = true ∨ t.run.run.holds.get s.ownSlot = some false))
      ∧ (¬wrong → s.run.state = .moving ∨ s.run.state = .stopping → s.run.run.abortPending = false →
          (∀ id, s.runId = some id → s.listening = false → ∀ l, t.carries l (.hold id))
          ∧ (s.run.state = .moving → t.run.state = .stopping → t.run.run.holdTarget = s.formHoldTarget)
          ∧ (t.tripAsserted = true
            ∨ (t.run.run.holds.get s.ownSlot = some false
              ∧ ((t.run.state = .stopping ∧ t.port.busy = true ∧ t.port.code = 4)
                ∨ (t.run.state = .held ∧ t.port.busy = false ∧ t.port.result = .done
                  ∧ (s.port.queue.length ≤ 12 → (∀ l, (s.line l).queue.length ≤ 6) →
                    ⟨.held, s.ownSlot, s.runId, s.supBlock, (maskOf t.holdsSlot : Int), s.clock⟩ ∈ t.port.queue))))))
      ∧ (¬wrong → s.run.state = .moving ∨ s.run.state = .stopping → s.run.run.abortPending = true →
          (∀ id, s.runId = some id → s.listening = false → ∀ l, t.carries l (.hold id))
          ∧ (t.tripAsserted = true
            ∨ (t.run.state = .stopping ∧ t.run.run.holds.get s.ownSlot = some false ∧ t.port.busy = true ∧ t.port.code = 4)
            ∨ (s.isDrive = true ∧ s.pos.standstill = true ∧ t.run.state = .idle
              ∧ t.port.busy = false ∧ t.port.result = .closed .aborted))))
  ∧ (∀ (s : State) (l : LineId) (bytes : List Byte) (delimited : Bool) (f : RxFrame) (id : RunId),
    s.Accepts bytes delimited f → f.body = .hold id →
    let taken := s.configFault = false ∧ s.listening = false ∧ s.runId = some id ∧ s.run.state ≠ .idle
      ∧ s.run.state ≠ .arrived ∧ s.run.state ≠ .tripped
    ∃ t, exec (.frameArrival l bytes delimited) s = .next t
      ∧ (¬taken → t = s.ignoring l f)
      ∧ (taken → s.run.run.abortPending = false →
          (s.AtRest → s.inMotion = false → t.tripAsserted = false)
          ∧ (t.tripAsserted = true ∨ (t.run.run.holds.get f.sender = some false
            ∧ (s.run.state = .moving ∨ s.run.state = .stopping → t.run.state = .stopping
              ∨ (t.run.state = .held ∧ (s.port.queue.length ≤ 12 → (∀ l, (s.line l).queue.length ≤ 6) →
                  ⟨.held, s.ownSlot, s.runId, s.supBlock, (maskOf t.holdsSlot : Int), s.clock⟩ ∈ t.port.queue)))
            ∧ (s.run.state = .dispatch → t.run.state = .awaitGo)))
          ∧ (s.run.state = .moving → t.run.state = .stopping → t.run.run.holdTarget = s.formHoldTarget))
      ∧ (taken → s.run.run.abortPending = true → t.tripAsserted = true ∨ t.run.run.holds.get f.sender = some false
          ∨ (s.isDrive = true ∧ s.inMotion = true ∧ s.pos.standstill = true ∧ t.run.state = .idle)))
  ∧ (∀ (s : State) (l : LineId) (bytes : List Byte) (delimited : Bool) (f : RxFrame) (st : Status),
    s.Accepts bytes delimited f → f.body = .status st → st.hold = true →
    let holding := s.run.state ≠ .idle ∧ s.run.state ≠ .arrived ∧ s.run.state ≠ .tripped
    ∃ t, exec (.frameArrival l bytes delimited) s = .next t
      ∧ (s.runId ≠ none → st.runId = s.runId → holding →
          t.tripAsserted = true ∨ t.run.run.holds.get f.sender = some false
          ∨ (s.isDrive = false ∧ t.run.state = .arrived)
          ∨ (s.isDrive = true ∧ s.run.run.abortPending = true ∧ t.run.state = .idle))
      ∧ (s.isDrive = true → s.run.run.abortPending = false → s.runId ≠ none → st.runId = s.runId →
          (s.run.state = .moving ∨ s.run.state = .stopping →
            t.tripAsserted = true ∨ t.run.state = .stopping ∨ t.run.state = .held)
          ∧ (s.run.state = .dispatch → t.tripAsserted = true ∨ t.run.state = .awaitGo))
      ∧ (st.runId ≠ s.runId ∨ s.run.state = .arrived → s.run.state ≠ .tripped →
          t.tripAsserted = true ∨ t.run.state = .idle ∨ t.run.run.holds = s.run.run.holds
          ∨ (s.run.state = .idle ∧ t.run.run.rejoined = true)))
  ∧ (∀ s : State, s.phase = .running → s.isDrive = true → s.run.state = .stopping → s.run.run.abortPending = false →
    s.holdsEmpty = false → s.pos.standTimer.isSome = true →
    ∃ t, exec .standstillTimerExpiry s = .next t
      ∧ (t.tripAsserted = true ∨ (t.run.state = .held ∧ t.run.run.holds = s.run.run.holds ∧ t.run.run.holdTarget = none
        ∧ t.run.run.stops = s.run.run.stops ∧ t.ref.vref = 0
        ∧ (s.port.busy = true → s.port.code = 4 → t.port.busy = false ∧ t.port.result = .done)
        ∧ (s.port.queue.length ≤ 12 → (∀ l, (s.line l).queue.length ≤ 6) →
          ⟨.held, s.ownSlot, s.runId, s.supBlock, (maskOf s.holdsSlot : Int), s.clock⟩ ∈ t.port.queue))))
  ∧ (∀ (s : State) (d : Dir) (stop allowance : Int), s.noPosition = false → s.runDir = some d →
      s.currentStop = some (stop, allowance) → s.usesFreePlanning = false →
    let base : Int × Int × Int :=
      if s.isDrive then (s.pos.x, magnitude s.pos.v, (s.ref.shown.map (·.aPl)).getD 1)
      else (s.xSup, magnitude s.vSup,
        max 1 (min s.params.aPlan (floorDiv (s.lowestGuaranteed (s.blockOf s.xSup) (s.blockOf stop)) 2)))
    let planned := base.1 + d.sgn * (ceilDiv (base.2.1 ^ 2) (2 * base.2.2) + s.params.sCreep)
    let throat (x : Int) : Prop := (s.block (s.blockOf x)).noHalt = true
    let past (x : Int) : Int := s.farEdge d (s.blockOf x) + d.sgn * s.params.wClear
    ∃ h, s.formHoldTarget = some h
      ∧ (¬throat planned → h = planned)
      ∧ (throat planned → d.sgn * stop < d.sgn * past planned → h = stop)
      ∧ (throat planned → d.sgn * past planned ≤ d.sgn * stop → ¬throat (past planned) → h = past planned)
      ∧ (0 < s.params.wClear → (∀ b ∈ s.blocks, 0 < b.length) → s.startOf s.blocks.length = s.params.L →
          0 ≤ stop → stop ≤ s.params.L → throat h → h = stop))
  ∧ (∀ s : State, s.noPosition = true → s.formHoldTarget = none)
  ∧ (∀ (s : State) (k : Nat),
      (∀ j, k < j → j < s.blocks.length → (s.block j).noHalt = false →
        (∀ i, k < i → i < j → (s.block i).noHalt = true) → s.farEdge .up k = s.startOf j)
      ∧ ((∀ j, k < j → j < s.blocks.length → (s.block j).noHalt = true) → s.farEdge .up k = s.params.L)
      ∧ (∀ j, j < k → (s.block j).noHalt = false → (∀ i, j < i → i < k → (s.block i).noHalt = true) →
          s.farEdge .down k = s.endOf j)
      ∧ ((∀ j, j < k → (s.block j).noHalt = true) → s.farEdge .down k = 0))
  ∧ ∀ s t : State, s.restSound → step s = .next t → t.restSound

/-- RELEASE by R147: the own entry alone is removed, with a RELEASE frame where the own hold flag clears (R145), and a run in STOPPING with
no hold left moves again, with RESUMED of value 1 and leg, stop list and decision kept (R153, R160). A RELEASE frame for the current run
removes its sender, from any record, and any other is ignored (R148); the DRIVE in HELD resumes at the last one, the own RELEASE among them,
where its roles are filled, with RUN_GO and RESUMED of value 2 (R155). A STATUS with a clear hold flag removes its sender likewise, and
alone (R148). Another station in HELD resumes on RUN_GO or on the drive's STATUS showing MOVING, whichever comes first, and ignores the
other for that resume (R155; which signs tell of one start is log 32, a target without an entry log 28). -/
def Obligations.ReleaseRemovesTheOwnHold : Prop :=
  (∀ s : State, s.phase = .running →
    let wrong := s.configFault = true ∨ s.run.state = .idle
    ∃ t, exec .release s = .next t
      ∧ (wrong → Answered .release .wrongState s t)
      ∧ (¬wrong → s.run.state = .tripped → Answered .release .tripped s t)
      ∧ (¬wrong → s.run.state ≠ .tripped → s.run.run.holds.get s.ownSlot = none → Answered .release .nothingToDo s t)
      ∧ (¬wrong → s.run.state ≠ .tripped → s.run.run.holds.get s.ownSlot ≠ none →
          Answered .release .done s t ∧ t.run.run.holds.get s.ownSlot = none
          ∧ ((∀ j, j ≠ s.ownSlot → s.run.run.holds.get j ≠ some true) →
              ∀ id, s.runId = some id → s.listening = false → ∀ l, t.carries l (.release id))
          ∧ (s.AtRest → s.isDrive = false → s.inMotion = false → t.tripAsserted = false)
          ∧ (t.tripAsserted = true ∨ t.run.state = .idle
              ∨ ∀ j, j ≠ s.ownSlot → t.run.run.holds.get j = s.run.run.holds.get j)
          ∧ (s.run.state = .stopping → s.run.run.abortPending = false →
              (∀ j, j ≠ s.ownSlot → s.run.run.holds.get j = none) → t.tripAsserted = true ∨ s.hasReturned t)
          ∧ (s.run.state = .held → s.isDrive = true → s.rolesFilled = true →
              (∀ j, j ≠ s.ownSlot → s.run.run.holds.get j = none) → t.tripAsserted = true ∨ s.hasResumed t)))
  ∧ (∀ (s : State) (l : LineId) (bytes : List Byte) (delimited : Bool) (f : RxFrame) (id : RunId),
    s.Accepts bytes delimited f → f.body = .release id →
    let taken := s.configFault = false ∧ s.listening = false ∧ s.runId = some id ∧ s.run.state ≠ .idle
      ∧ s.run.state ≠ .arrived ∧ s.run.state ≠ .tripped
    ∃ t, exec (.frameArrival l bytes delimited) s = .next t
      ∧ (¬taken → t = s.ignoring l f)
      ∧ (taken → t.run.run.holds.get f.sender = none
          ∧ (s.AtRest → s.isDrive = false → s.inMotion = false → t.tripAsserted = false)
          ∧ (t.tripAsserted = true ∨ t.run.state = .idle
              ∨ ∀ j, j ≠ f.sender → t.run.run.holds.get j = s.run.run.holds.get j)
          ∧ ((∀ j, j ≠ f.sender → s.run.run.holds.get j = none) → s.run.run.abortPending = false →
              (s.run.state = .stopping → t.tripAsserted = true ∨ s.hasReturned t)
              ∧ (s.run.state = .held → s.isDrive = true → s.rolesFilled = true →
                  t.tripAsserted = true ∨ s.hasResumed t))))
  ∧ (∀ (s : State) (l : LineId) (bytes : List Byte) (delimited : Bool) (f : RxFrame) (st : Status),
    s.Accepts bytes delimited f → f.body = .status st → st.hold = false →
    ∃ t, exec (.frameArrival l bytes delimited) s = .next t
      ∧ t.run.run.holds.get f.sender = none
      ∧ (s.run.state ≠ .idle → s.run.state ≠ .tripped → t.tripAsserted = true ∨ t.run.state = .idle
          ∨ ∀ j, j ≠ f.sender → t.run.run.holds.get j = s.run.run.holds.get j)
      ∧ (s.isDrive = true → (∀ j, j ≠ f.sender → s.run.run.holds.get j = none) → s.run.run.abortPending = false →
          (s.run.state = .stopping → t.tripAsserted = true ∨ t.run.state = .moving)
          ∧ (s.run.state = .held → t.rolesFilled = true → t.tripAsserted = true ∨ s.hasResumed t)))
  ∧ (∀ (s : State) (l : LineId) (bytes : List Byte) (delimited : Bool) (f : RxFrame) (id : RunId) (leg : Nat) (target : Int),
    s.Accepts bytes delimited f → f.body = .runGo id leg target → s.takesRunFrames = true →
    (s.peer f.sender).knownDrive = true → s.isDrive = false → s.tripAsserted = false → s.run.state = .held →
    ∃ t, exec (.frameArrival l bytes delimited) s = .next t
      ∧ (s.runId ≠ some id ∨ leg ≠ s.run.run.leg → t = s.ignoring l f)
      ∧ (s.runId = some id → leg = s.run.run.leg →
          (s.run.run.startedBy = some .status →
            t.tripAsserted = true ∨ (t.run.state = .held ∧ t.run.run.startedBy = none))
          ∧ (s.run.run.startedBy ≠ some .status →
            (s.port.queue.length ≤ 12 → ⟨.resumed, s.ownSlot, s.runId, s.supBlock, 2, s.clock⟩ ∈ t.port.queue)
            ∧ (s.run.run.abortPending = false → t.tripAsserted = true
              ∨ (s.holdsEmpty = true ∧ t.run.state = .moving ∧ t.run.run.leg = s.run.run.leg ∧ t.run.run.holdTarget = none
                ∧ (t.loopLeg = false → ∃ a, t.currentStop = some (target, a)))
              ∨ (s.holdsEmpty = false ∧ (t.run.state = .stopping ∨ t.run.state = .held))))))
  ∧ ∀ (s : State) (l : LineId) (bytes : List Byte) (delimited : Bool) (f : RxFrame) (st : Status),
    s.HearsDrive bytes delimited f st → s.run.state = .held → st.runId = s.runId → st.runState = .moving →
    st.leg = s.run.run.leg →
    ∃ t, exec (.frameArrival l bytes delimited) s = .next t
      ∧ (s.run.run.startedBy = some .runGo →
          t.tripAsserted = true ∨ (t.run.state = .held ∧ t.run.run.startedBy = none))
      ∧ (s.run.run.startedBy ≠ some .runGo →
          (t.tripAsserted = true ∨ ((s.port.queue.length ≤ 8 → ⟨.resumed, s.ownSlot, s.runId, s.supBlock, 2, s.clock⟩ ∈ t.port.queue)
            ∧ t.run.state = .moving ∧ t.run.run.leg = s.run.run.leg ∧ t.run.run.holdTarget = none
            ∧ (t.loopLeg = false → ∃ a, t.currentStop = some (st.target, a)))))

/-- ABORT by R157 to R159: the DRIVE closes at once outside MOVING and STOPPING; the other stations hold the abort; the ABORT frame goes
out, and the DRIVE's RUN_CLOSE after it. An ABORT frame for the current run does the same at its receiver, from any record, and any other is
ignored. The drive's STATUS ends the leg of the other stations at line standstill (R113), and one without the run closes a run whose close
was lost (R115; a rejoin of the other run waits for the next STATUS, log 49); a leg that ends with no PENDING entry reports the value 0 (log
56). Both hold in STOPPING too, with holds or an abort still there (whether HELD comes between is log 55); a car whose door is open trips
where the clear hold flag takes it to MOVING first (R170). -/
def Obligations.AbortEndsTheRun : Prop :=
  (∀ s : State, s.phase = .running →
    let wrong := s.configFault = true ∨ s.run.state = .idle
    ∃ t, exec .abort s = .next t
      ∧ (¬wrong → s.run.state ≠ .tripped → ∀ id, s.runId = some id → s.listening = false → ∀ l,
          t.carries l (.abort id) ∧ (s.isDrive = true → s.inMotion = false → t.carries l (.runClose id .aborted)))
      ∧ (wrong → Answered .abort .wrongState s t)
      ∧ (¬wrong → s.run.state = .tripped → Answered .abort .tripped s t)
      ∧ (¬wrong → s.run.state ≠ .tripped → s.isDrive = true → s.inMotion = false →
          Answered .abort .done s t ∧ (s.AtRest → t.tripAsserted = false)
          ∧ (t.tripAsserted = true ∨ (t.run.state = .idle ∧ t.run.run.hdr = none))
          ∧ (s.port.queue.length ≤ 10 → ⟨.runClosed, s.ownSlot, s.runId, none, 2, s.clock⟩ ∈ t.port.queue))
      ∧ (¬wrong → s.run.state ≠ .tripped → s.isDrive = true → s.inMotion = true →
          t.tripAsserted = true
          ∨ (t.run.state = .stopping ∧ t.run.run.abortPending = true ∧ t.run.run.abortOrigin = true ∧ t.port.busy = true)
          ∨ (t.run.state = .idle ∧ t.port.busy = false ∧ t.port.result = .done))
      ∧ (¬wrong → s.run.state ≠ .tripped → s.isDrive = false →
          (s.AtRest → s.inMotion = false → t.tripAsserted = false) ∧ (t.tripAsserted = true
          ∨ (t.run.run.abortPending = true ∧ t.run.run.abortOrigin = true ∧ t.port.busy = true ∧ t.port.code = 6
            ∧ (s.inMotion = true → t.run.state = .stopping)))))
  ∧ (∀ (s : State) (l : LineId) (bytes : List Byte) (delimited : Bool) (f : RxFrame) (id : RunId),
    s.Accepts bytes delimited f → f.body = .abort id →
    let taken := s.configFault = false ∧ s.listening = false ∧ s.runId = some id ∧ s.run.state ≠ .idle ∧ s.run.state ≠ .tripped
    ∃ t, exec (.frameArrival l bytes delimited) s = .next t
      ∧ (¬taken → t = s.ignoring l f)
      ∧ (taken → (s.AtRest → s.inMotion = false → t.tripAsserted = false)
          ∧ (s.isDrive = true → s.inMotion = false → (∀ l, t.carries l (.runClose id .aborted))
            ∧ (t.tripAsserted = true ∨ (t.run.state = .idle ∧ t.run.run.hdr = none)))
          ∧ (s.isDrive = true → s.inMotion = true → t.tripAsserted = true ∨ t.run.state = .idle
            ∨ (t.run.state = .stopping ∧ t.run.run.abortPending = true))
          ∧ (s.isDrive = false → t.tripAsserted = true
            ∨ (t.run.run.abortPending = true ∧ (s.inMotion = true → t.run.state = .stopping)))))
  ∧ (∀ (s : State) (l : LineId) (bytes : List Byte) (delimited : Bool) (f : RxFrame) (st : Status),
    s.HearsDrive bytes delimited f st → s.run.state = .moving ∨ s.run.state = .held → s.run.run.decision ≠ .undecided →
    st.runId = s.runId → st.leg = s.run.run.leg → st.runState = .dwell ∨ st.runState = .arrived →
    ∃ t, exec (.frameArrival l bytes delimited) s = .next t
      ∧ (¬s.standsWith st → t.tripAsserted = true ∨ t.run.state = s.run.state)
      ∧ (s.standsWith st →
          t.tripAsserted = true ∨ (t.run.state = st.runState ∧ t.run.run.leg = s.run.run.leg
            ∧ t.run.run.stops = markReached s.run.run.stops ∧ t.car.ready = false
            ∧ (s.port.queue.length ≤ 8 → ⟨.legReached, s.ownSlot, s.runId, s.stopBlock,
              ((s.firstPending.map fun e => e.kind.code).getD 0 : Nat), s.clock⟩ ∈ t.port.queue))))
  ∧ (∀ (s : State) (l : LineId) (bytes : List Byte) (delimited : Bool) (f : RxFrame) (st : Status),
    s.HearsDrive bytes delimited f st →
    s.run.state = .moving ∨ s.run.state = .held ∨ s.run.state = .dwell ∨ s.run.state = .arrived →
    st.runState = .idle ∨ st.runId ≠ s.runId →
    ∃ t, exec (.frameArrival l bytes delimited) s = .next t
      ∧ (¬s.standsWith st → t.tripAsserted = true ∨ t.run.state = s.run.state)
      ∧ (s.standsWith st →
          (s.lineStandstill = true ∨ st.runState ≠ .dwell →
            t.tripAsserted = true ∨ (t.run.state = .idle ∧ t.run.run = RunRecord.empty))
          ∧ (s.port.queue.length ≤ 8 → t.tripAsserted = true ∨ ⟨.runClosed, s.ownSlot, s.runId, none,
              if s.run.state = .arrived then 1 else 7, s.clock⟩ ∈ t.port.queue)))
  ∧ ∀ (s : State) (l : LineId) (bytes : List Byte) (delimited : Bool) (f : RxFrame) (st : Status),
    s.HearsSoundDrive bytes delimited f st → s.run.state = .stopping →
    let legOver := s.run.run.decision ≠ .undecided ∧ st.runId = s.runId ∧ st.leg = s.run.run.leg
      ∧ (st.runState = .dwell ∨ st.runState = .arrived)
    let closed := st.runState = .idle ∨ st.runId ≠ s.runId
    ∃ t, exec (.frameArrival l bytes delimited) s = .next t
      ∧ (legOver ∨ closed → ¬s.standsWith st → t.tripAsserted = true ∨ t.run.state = .stopping ∨ t.run.state = .moving)
      ∧ (legOver → s.standsWith st →
          t.tripAsserted = true ∨ (t.run.state = st.runState ∧ t.run.run.leg = s.run.run.leg
            ∧ t.run.run.stops = markReached s.run.run.stops ∧ t.car.ready = false
            ∧ (s.port.queue.length ≤ 8 → ∃ block, ⟨.legReached, s.ownSlot, s.runId, block,
              ((s.firstPending.map fun e => e.kind.code).getD 0 : Nat), s.clock⟩ ∈ t.port.queue)))
      ∧ (closed → s.standsWith st →
          (s.lineStandstill = true ∨ st.runState ≠ .dwell →
            t.tripAsserted = true ∨ (t.run.state = .idle ∧ t.run.run = RunRecord.empty))
          ∧ (s.port.queue.length ≤ 8 → t.tripAsserted = true
            ∨ ⟨.runClosed, s.ownSlot, s.runId, none, 7, s.clock⟩ ∈ t.port.queue))

/-- CONFIRM_READY by its table (R96), and the own consent: the stop count exactly while every condition of R94 and R95 holds. The terminal
block is the last block UP and the first DOWN, on a profile whose blocks fill the line. -/
def Obligations.ConfirmReadySetsTheLatch : Prop :=
  (∀ s : State, s.phase = .running →
    let wrong := s.configFault = true ∨ (s.run.state ≠ .dispatch ∧ s.run.state ≠ .awaitGo ∧ s.run.state ≠ .dwell)
      ∨ s.pins.doorClosed = false
    ∃ t, exec .confirmReady s = .next t
      ∧ (s.isCar = false → Answered .confirmReady .wrongRole s t)
      ∧ (s.isCar = true → wrong → Answered .confirmReady .wrongState s t)
      ∧ (s.isCar = true → ¬wrong → Answered .confirmReady .done s t ∧ (s.AtRest → t.tripAsserted = false)
          ∧ (t.tripAsserted = true ∨ t.car.ready = true)))
  ∧ ∀ (s : State) (n : Nat), (∀ b ∈ s.blocks, 0 < b.length) → s.startOf s.blocks.length = s.params.L →
    let guarantee (d : Dir) (k : Nat) : Prop := s.params.aFloor ≤ s.guaranteed d k
    s.consent = some n ↔ n = s.stopCount ∧ (s.run.state = .dispatch ∨ s.run.state = .awaitGo ∨ s.run.state = .dwell)
      ∧ s.trips.latch = none ∧ (∀ i, s.trips.origins.get i = none) ∧ s.configFault = false ∧ s.rx.slotConflict = false
      ∧ s.peerCtl.roleConflict = false ∧ s.listening = false ∧ s.sup.est ≠ none ∧ s.run.run.abortPending = false
      ∧ s.role ≠ none
      ∧ (s.isDrive = true → s.brakes.parkDegraded = false ∧ s.pos.quality ≠ .unknown
        ∧ (s.runDir = some .up → ∀ k, s.blockOf s.pos.x ≤ k → k ≤ s.blocks.length - 1 → guarantee .up k)
        ∧ (s.runDir = some .down → ∀ k, k ≤ s.blockOf s.pos.x → guarantee .down k)
        ∧ (s.runDir = none → ∀ k, s.blockOf s.pos.x ≤ k → k ≤ s.blocks.length - 1 → guarantee .up k ∧ guarantee .down k))
      ∧ (s.isCar = true → s.car.ready = true ∧ s.pins.doorClosed = true)
      ∧ (s.isRole .loop = true → ∀ d, (s.det.unit d).fault = false)

/-- The three timers of the waiting states: the window closes, the DRIVE closes with the first cause that applies, the
others close with NO_DRIVE (R89, R90, R101, R103), and the DRIVE whose conditions hold commits (R98): no hold, a PRESENT record of each
required role, and the matching consents of the DRIVE, of those roles and of the PRESENT WAYSIDEs (R97). A RUN_GO of leg 0 for the current
run takes a waiting station to MOVING toward its target, and so does the drive's STATUS (R99); the next leg begins likewise from DWELL
(R114), and a station in IDLE joins the run that the drive shows (R122, R123; an entry at or beyond the TERMINAL is not placed, log 40).
A RUN_CLOSE closes the run in any state but IDLE and TRIPPED (R102, R104). The marker monitor of a car arms as it enters MOVING on leg 0 or
on a rejoin, one made in DWELL among them, and at no other start of a leg; it disarms in IDLE, ARRIVED and TRIPPED, so after every step
(R31). The expiries are taken while their timers run (log 2). The
model's choices in it: a target with no PENDING entry at it is supervised as log 28 says, RUN_COMMITTED counts the stops of the repaired
list (log 39), LOOP_MISALIGNED comes before it (log 48), and the clean flag of the traversal looks at the spread and the qualities alone
(log 33). -/
def Obligations.WaitingTimersCloseWindowAndRun : Prop :=
  (∀ s : State, s.phase = .running → s.run.state = .dispatch → s.run.run.dispatchTimer.isSome = true →
    ∃ t, exec .dispatchTimerExpiry s = .next t ∧ Settled s t
      ∧ (s.AtRest → s.isDrive = false ∨ s.rolesFilled = false → t.tripAsserted = false)
      ∧ (s.isDrive = false → t.tripAsserted = true ∨ (t.run.state = .awaitGo ∧ t.run.run.dispatchTimer = none
          ∧ t.run.run.goGuardTimer = startTimer (s.params.tConsent + s.params.tLost)))
      ∧ (s.isDrive = true →
          let waits := t.run.state = .awaitGo ∧ t.run.run.dispatchTimer = none
            ∧ t.run.run.consentTimer = startTimer s.params.tConsent ∧ t.commitReady = false
          t.tripAsserted = true ∨ waits ∨ (t.run.state = .moving ∧ t.run.run.leg = 0))
      ∧ (s.isDrive = true → s.rolesFilled = false ∨ s.holdsEmpty = false
            ∨ (∃ i ∈ s.neededSlots, s.consentMatches (s.run.run.consents.get i) = false) →
          t.tripAsserted = true ∨ (t.run.state = .awaitGo ∧ t.run.run.dispatchTimer = none
            ∧ t.run.run.consentTimer = startTimer s.params.tConsent)))
  ∧ (∀ s : State, s.phase = .running → s.run.state = .awaitGo → s.run.run.consentTimer.isSome = true →
    ∃ t, exec .consentTimerExpiry s = .next t ∧ Settled s t ∧ (s.AtRest → t.tripAsserted = false)
      ∧ (∀ id, s.runId = some id → s.listening = false → ∀ l, t.carries l (.runClose id s.timeoutCause))
      ∧ (t.tripAsserted = true ∨ (t.run.state = .idle ∧ t.run.run = RunRecord.empty))
      ∧ (s.port.queue.length ≤ 13 → ∃ cause : CloseCause,
          ⟨.runClosed, s.ownSlot, s.runId, none, (cause.code : Int), s.clock⟩ ∈ t.port.queue
          ∧ (s.rolesFilled = false → cause = .missingPeer)
          ∧ (s.rolesFilled = true → (∃ c ∈ s.neededConsents, s.consentNamesRun c = false) → cause = .noConsent)
          ∧ (s.rolesFilled = true → (∀ c ∈ s.neededConsents, s.consentNamesRun c = true) →
              ((∃ c ∈ s.neededConsents, s.consentMatches c = false) → cause = .stopMismatch)
              ∧ ((∀ c ∈ s.neededConsents, s.consentMatches c = true) → cause = .held))))
  ∧ (∀ s : State, s.phase = .running → s.run.state = .awaitGo → s.run.run.goGuardTimer.isSome = true →
    ∃ t, exec .goGuardTimerExpiry s = .next t ∧ Settled s t ∧ (s.AtRest → t.tripAsserted = false)
      ∧ (t.tripAsserted = true ∨ (t.run.state = .idle ∧ t.run.run = RunRecord.empty))
      ∧ (s.port.queue.length ≤ 15 → ⟨.runClosed, s.ownSlot, s.runId, none, 7, s.clock⟩ ∈ t.port.queue))
  ∧ (∀ (s : State) (l : LineId) (bytes : List Byte) (delimited : Bool) (f : RxFrame) (id : RunId) (target : Int),
    s.Accepts bytes delimited f → f.body = .runGo id 0 target → s.takesRunFrames = true →
    (s.peer f.sender).knownDrive = true →
    ∃ t, exec (.frameArrival l bytes delimited) s = .next t
      ∧ (s.isDrive = true ∨ s.tripAsserted = true ∨ s.run.state = .arrived → t = s.ignoring l f)
      ∧ (s.isDrive = false → s.run.state = .dispatch ∨ s.run.state = .awaitGo → s.runId = some id →
          s.holdsEmpty = true → s.run.run.abortPending = false →
          t.tripAsserted = true ∨ (t.run.state = .moving ∧ t.run.run.leg = 0 ∧ t.run.run.hdr = s.run.run.hdr
            ∧ t.run.run.dispatchTimer = none ∧ t.run.run.goGuardTimer = none
            ∧ (s.port.busy = true → s.port.code = 1 → t.port.busy = false ∧ t.port.result = .done)
            ∧ (s.port.queue.length ≤ 12 →
                ⟨.runCommitted, id.origin, some id, some (s.blockOf target), (t.stopCount : Int), s.clock⟩ ∈ t.port.queue)
            ∧ (t.loopLeg = false → ∃ a, t.currentStop = some (target, a))
            ∧ (s.isCar = true → t.monitorArmed)
            ∧ ((∀ e, s.firstPending = some e → e.pos ≠ target) →
                ∀ e ∈ t.run.run.stops, e.status = .pending → 0 ≤ s.dirSgn * (e.pos - target))
            ∧ ∀ x v, s.sup.est = some (x, v) →
                (s.runDir = some .up → magnitude (x - s.startOf (s.blockOf x)) ≤ s.params.W →
                  t.profile.traversal
                    = some ⟨s.blockOf x, s.startOf (s.blockOf x), s.provingConditions, s.sup.spread⟩)
                ∧ (s.runDir = some .down → magnitude (x - s.endOf (s.blockOf x)) ≤ s.params.W →
                  t.profile.traversal
                    = some ⟨s.blockOf x, s.endOf (s.blockOf x), s.provingConditions, s.sup.spread⟩))))
  ∧ (∀ (s : State) (l : LineId) (bytes : List Byte) (delimited : Bool) (f : RxFrame) (id : RunId) (cause : CloseCause),
    s.Accepts bytes delimited f → f.body = .runClose id cause → s.takesRunFrames = true →
    (s.peer f.sender).knownDrive = true →
    ∃ t, exec (.frameArrival l bytes delimited) s = .next t
      ∧ (s.runId ≠ some id ∨ s.run.state = .idle ∨ s.run.state = .tripped → t = s.ignoring l f)
      ∧ (s.runId = some id → s.run.state ≠ .idle → s.run.state ≠ .tripped →
          (s.AtRest → t.tripAsserted = false)
          ∧ (t.tripAsserted = true ∨ (t.run.state = .idle ∧ t.run.run = RunRecord.empty)) ∧ t.marker = s.marker.disarm
          ∧ (s.port.queue.length ≤ 13 →
              ⟨.runClosed, f.sender, some id, none, (cause.code : Int), s.clock⟩ ∈ t.port.queue)
          ∧ (s.port.busy = true → t.port.busy = false ∧ t.port.result = closeResult s.port.code cause)))
  ∧ (∀ s : State, s.phase = .running → s.isDrive = true → s.run.state = .dispatch → s.run.run.dispatchTimer.isSome = true →
    s.commitReady = true → s.run.run.abortPending = false →
    let ahead := ∃ d, s.runDir = some d ∧ s.sup.est ≠ none ∧ s.params.W < d.sgn * (s.params.pLoop - s.xSup)
    ∃ t, exec .dispatchTimerExpiry s = .next t
      ∧ (t.tripAsserted = true ∨ t.brakes.parkDegraded = true
        ∨ (t.run.state = .moving ∧ t.run.run.leg = 0 ∧ t.run.run.hdr = s.run.run.hdr ∧ t.run.run.stops = s.run.run.stops
          ∧ t.run.run.dispatchTimer = none ∧ t.run.run.consentTimer = none
          ∧ (s.isKind .inspection = true ∨ ¬ahead → t.run.run.decision = .notApplicable)
          ∧ (s.isKind .inspection = false → ahead →
              t.run.run.decision = if s.hasLoopEntry = true then .stop else s.run.run.decision)
          ∧ (∀ id, s.runId = some id → (∀ l, t.carries l (.runGo id 0 s.legTarget))
            ∧ ((∀ l, (s.line l).queue.length ≤ 6) → s.port.queue.length ≤ 13 →
              ⟨.runCommitted, id.origin, some id, some (s.blockOf s.legTarget), (s.stopCount : Int), s.clock⟩ ∈ t.port.queue)))))
  ∧ (∀ (s : State) (l : LineId) (bytes : List Byte) (delimited : Bool) (f : RxFrame) (id : RunId) (leg : Nat) (target : Int),
    s.Accepts bytes delimited f → f.body = .runGo id leg target → s.takesRunFrames = true →
    (s.peer f.sender).knownDrive = true → s.isDrive = false → s.tripAsserted = false →
    ∃ t, exec (.frameArrival l bytes delimited) s = .next t
      ∧ (s.run.state = .dispatch ∨ s.run.state = .awaitGo → s.runId = some id → leg ≠ 0 → t = s.ignoring l f)
      ∧ (s.run.state = .moving ∨ s.run.state = .stopping →
          (s.runId ≠ some id ∨ leg ≠ s.run.run.leg ∨ s.run.run.startedBy ≠ some .status → t = s.ignoring l f)
          ∧ (s.run.run.abortPending = false → s.holdsEmpty = true → s.run.state = .moving →
              t.tripAsserted = true ∨ (t.run.state = .moving ∧ t.run.run.leg = s.run.run.leg ∧ t.run.run.stops = s.run.run.stops)))
      ∧ (s.run.state = .dwell → s.runId ≠ some id ∨ leg ≠ s.run.run.leg + 1 → t = s.ignoring l f)
      ∧ (s.run.state = .dwell → s.runId = some id → leg = s.run.run.leg + 1 → s.holdsEmpty = true →
          s.run.run.abortPending = false →
          t.tripAsserted = true ∨ (t.run.state = .moving ∧ t.run.run.leg = leg ∧ t.run.run.hdr = s.run.run.hdr
            ∧ (t.loopLeg = false → ∃ a, t.currentStop = some (target, a)) ∧ (t.loopLeg = true → t.run.run.berth ≠ none)
            ∧ (s.isCar = true → s.run.run.joinedInDwell = true → t.monitorArmed)
            ∧ (s.run.run.joinedInDwell = false → t.marker = s.marker)
            ∧ (s.port.queue.length ≤ 12 → ∃ k, ⟨.runCommitted, id.origin, some id, some k,
                ((leg * 256 + t.stopCount : Nat) : Int), s.clock⟩ ∈ t.port.queue ∧ (t.loopLeg = false → k = s.blockOf target))))
      ∧ (s.run.state = .idle → s.role ≠ none →
          ((∀ j st, s.driveRecord = some (j, st) → st.runId ≠ some id) → t = s.ignoring l f)
          ∧ ∀ j st, s.driveRecord = some (j, st) → st.runId = some id →
            (t.tripAsserted = true ∨ (t.run.state = .moving ∧ t.hasJoined id st leg target .pending
              ∧ (s.isCar = true → t.monitorArmed)))
            ∧ (s.port.queue.length ≤ 12 → ∃ k,
                ⟨.runCommitted, id.origin, some id, some k, ((leg * 256 : Nat) : Int), s.clock⟩ ∈ t.port.queue)))
  ∧ (∀ (s : State) (l : LineId) (bytes : List Byte) (delimited : Bool) (f : RxFrame) (st : Status),
    s.HearsDrive bytes delimited f st →
    ∃ t, exec (.frameArrival l bytes delimited) s = .next t
      ∧ (((s.run.state = .dispatch ∨ s.run.state = .awaitGo) ∧ st.leg = 0) ∨ (s.run.state = .dwell ∧ st.leg = s.run.run.leg + 1) →
          st.runState = .moving → st.runId = s.runId →
          t.tripAsserted = true ∨ (t.run.state = .moving ∧ t.run.run.leg = st.leg ∧ t.run.run.hdr = s.run.run.hdr
            ∧ t.run.run.dispatchTimer = none ∧ t.run.run.goGuardTimer = none
            ∧ (t.loopLeg = false → ∃ a, t.currentStop = some (st.target, a)) ∧ (t.loopLeg = true → t.run.run.berth ≠ none)
            ∧ (s.isCar = true → s.run.state ≠ .dwell ∨ s.run.run.joinedInDwell = true → t.monitorArmed)))
      ∧ (s.run.state = .idle → s.listening = false → ∀ id, st.runId = some id →
          (st.runState = .moving ∨ st.runState = .stopping →
            t.tripAsserted = true ∨ (t.run.state = .moving ∧ t.hasJoined id st st.leg st.target .pending
              ∧ (s.isCar = true → t.monitorArmed)
              ∧ (s.port.queue.length ≤ 8 → ∃ k,
                ⟨.runCommitted, id.origin, some id, some k, ((st.leg * 256 : Nat) : Int), s.clock⟩ ∈ t.port.queue)))
          ∧ (st.runState = .dwell → s.standsWith st →
            t.tripAsserted = true ∨ (t.run.state = .dwell ∧ t.hasJoined id st st.leg st.target .reached
              ∧ (s.marker.armed = false → t.marker = s.marker)))
          ∧ (st.runState = .held ∨ st.runState = .arrived ∨ (st.runState = .dwell ∧ ¬s.standsWith st) →
            t.tripAsserted = true ∨ t.run.state = .idle)))
  ∧ (∀ s t : State, s.monitorSound → step s = .next t → t.monitorSound)
  ∧ ∀ s : State,
    let present (i : Slot) (st : Status) : Prop := (s.peer i).state = .present ∧ (s.peer i).contents = some st
    let required (r : Role) : Prop := r = .carA ∨ r = .carB ∨ (r = .loop ∧ s.params.loopFitted = 1)
    (s.rolesFilled = true ↔ ∀ r, required r → ∃ i st, present i st ∧ st.role = some r)
    ∧ (∀ c, c ∈ s.neededConsents ↔ c = (s.consent.map fun n => (s.runId, n))
      ∨ ∃ i st r, present i st ∧ st.role = some r ∧ (required r ∨ r = .wayside) ∧ c = s.run.run.consents.get i)
    ∧ (∀ c, s.consentNamesRun c = true ↔ ∃ id n, c = some (some id, n) ∧ s.runId = some id)
    ∧ (∀ c, s.consentMatches c = true ↔ ∃ id, c = some (some id, s.stopCount) ∧ s.runId = some id)
    ∧ (s.commitReady = true ↔ (∀ i, s.run.run.holds.get i = none) ∧ s.rolesFilled = true
      ∧ ∀ c ∈ s.neededConsents, s.consentMatches c = true)

/-! ### Output stage and trips -/

/-- The door-closed input of a car: opening clears the ready latch and trips in MOVING and STOPPING, and a car that enters one of them with
its door open trips with DOOR (R96, R170): no step takes it there, and the RUN_GO of a leg or a resume trips it. The door release output
is evaluated at each sample and at each change of line standstill, own quality and run state (R124): at every other step it stays, or it
is as those conditions have it, where the run state left its value and came back to it within the step. -/
def Obligations.OpeningDoorClearsReadyAndTrips : Prop :=
  (∀ s : State, s.phase = .running → s.isCar = true → s.pins.doorClosed = true →
    ∃ t, exec (.doorClosedChange false) s = .next t ∧ t.car.ready = false
      ∧ (s.inMotion = true → t.trips.latch ≠ none ∧ (s.trips.latch = none → t.trips.latch = some .door))
      ∧ Settled { s with pins := { s.pins with doorClosed := false } } t)
  ∧ (∀ s : State, s.phase = .running → s.isCar = true → s.pins.doorClosed = false →
    ∃ t, exec (.doorClosedChange true) s = .next t ∧ Settled { s with pins := { s.pins with doorClosed := true } } t)
  ∧ (∀ (c : Instr) (s t : State), s.phase = .running → s.isCar = true → exec c s = .next t → t.phase = .running →
    t.inMotion = true → t.run.state ≠ s.run.state → t.pins.doorClosed = true)
  ∧ (∀ (s : State) (l : LineId) (bytes : List Byte) (delimited : Bool) (f : RxFrame) (id : RunId) (leg : Nat) (target : Int),
    s.Accepts bytes delimited f → f.body = .runGo id leg target → s.takesRunFrames = true →
    (s.peer f.sender).knownDrive = true → s.isCar = true → s.tripAsserted = false → s.pins.doorClosed = false →
    s.runId = some id →
    ((s.run.state = .dispatch ∨ s.run.state = .awaitGo) ∧ leg = 0) ∨ (s.run.state = .dwell ∧ leg = s.run.run.leg + 1)
      ∨ (s.run.state = .held ∧ leg = s.run.run.leg ∧ s.run.run.startedBy ≠ some .status) →
    ∃ t, exec (.frameArrival l bytes delimited) s = .next t ∧ t.trips.latch = some .door ∧ t.run.state = .tripped)
  ∧ (∀ (s : State) (count : Word32), s.phase = .running → s.isCar = true → s.pos.sampleTimer.isSome = true →
    ∃ t, exec (.sampleTimerExpiry count) s = .next t ∧ (t.outputs.doorRelease = true ↔ t.doorMayOpen))
  ∧ ∀ (c : Instr) (s t : State), s.phase = .running → s.isCar = true → exec c s = .next t → t.phase = .running →
    (t.lineStandstill ≠ s.lineStandstill ∨ t.pos.quality ≠ s.pos.quality ∨ t.run.state ≠ s.run.state →
      (t.outputs.doorRelease = true ↔ t.doorMayOpen))
    ∧ (t.lineStandstill = s.lineStandstill → t.pos.quality = s.pos.quality → t.run.state = s.run.state →
      match c with
      | .sampleTimerExpiry _ => True
      | _ => t.outputs.doorRelease = s.outputs.doorRelease ∨ (t.outputs.doorRelease = true ↔ t.doorMayOpen))

/-- A stage feedback starts or stops the stage's check timer, and its expiry fails the stage for good: commanded applied,
out of the levels (R162). The expiry is taken while its timer runs (log 2); the block of the event with no position is the
model's choice (log 23). -/
def Obligations.StageCheckFailsTheStage : Prop :=
  (∀ (s : State) (st : Stage) (applied : Bool), s.phase = .running → s.isDrive = true →
    ∃ t, exec (.stageFeedbackChange st applied) s = .next t
      ∧ (∀ u, (t.brakes.unit u).timer = none ↔
          (t.brakes.unit u).failed = true ∨ t.stageCommand u = pinOfStage t.pins u)
      ∧ Settled { s with pins := setStagePin st applied s.pins } t)
  ∧ ∀ (s : State) (st : Stage), s.phase = .running → s.isDrive = true → (s.brakes.unit st).timer.isSome = true →
    (s.brakes.unit st).failed = false →
    ∃ t, exec (.stageCheckTimerExpiry st) s = .next t
      ∧ t.brakes.unit st = ⟨true, none⟩ ∧ outputOfStage t.outputs st = true
      ∧ (∀ u, u ≠ st → (t.brakes.unit u).failed = (s.brakes.unit u).failed)
      ∧ t.brakes.highest + stageWeight st = s.brakes.highest
      ∧ (s.port.queue.length ≤ 15 →
          ⟨.stageFailed, s.ownSlot, s.runId, s.driveBlock, (stageWeight st : Int), s.clock⟩ ∈ t.port.queue)
      ∧ t.pins = s.pins ∧ t.pos = s.pos ∧ t.peers = s.peers

/-- The emergency brake's check: a disagreement of feedback and command starts the timer, which runs on from where it stands, agreement
clears the fault and stops it, and expiry asks for the BRAKE_FB trip (R167). After every step the timer runs exactly in a disagreement in
which it has not run out; that it waits for an agreement after its expiry is log 20. The expiry is taken while its timer runs (log 2). -/
def Obligations.EmergencyBrakeCheckTrips : Prop :=
  (∀ (s : State) (applied : Bool), s.phase = .running → s.isDrive = true →
    ∃ t, exec (.emergencyBrakeFeedbackChange applied) s = .next t
      ∧ (t.emergencyCommand = t.pins.brakeFeedback → t.brakes.ebFault = false ∧ t.brakes.ebTimer = none)
      ∧ (t.emergencyCommand ≠ t.pins.brakeFeedback → t.brakes.ebFault = s.brakes.ebFault
          ∧ (s.brakes.ebFault = false → t.brakes.ebTimer = some (s.brakes.ebTimer.getD s.params.tStage.toNat)))
      ∧ Settled { s with pins := { s.pins with brakeFeedback := applied } } t)
  ∧ (∀ s t : State, s.emergencySound → step s = .next t → t.emergencySound)
  ∧ ∀ s : State, s.phase = .running → s.brakes.ebTimer.isSome = true →
    ∃ t, exec .emergencyBrakeTimerExpiry s = .next t
      ∧ (s.trips.latch = none → t.trips.latch = some .brakeFb ∧ t.run.state = .tripped)
      ∧ (s.isDrive = true → s.pins.brakeFeedback = false → t.brakes.ebFault = true) ∧ Settled s t

/-- The emergency-stop input and TRIP set the latch with LOCAL and enter TRIPPED, and the TRIP frame and a STATUS with the trip go out.
TRIP_LATCHED with the cause is queued, the run ends but for run id, kind and direction, and a tracked command completes with TRIPPED (R169,
R170; the command that TRIP itself finds in the slot is superseded). -/
def Obligations.EmergencyStopAndTripLatch : Prop :=
  (∀ s : State, s.phase = .running → s.pins.emergencyStop = false →
    ∃ t, exec .emergencyStopInput s = .next t
      ∧ (s.trips.latch = none → t.trips.latch = some .localTrip ∧ t.run.state = .tripped ∧ t.profile.proof = s.profile.proof
          ∧ (s.run.state ≠ .tripped → s.endedByTrip t ∧ s.completedWith t .tripped)
          ∧ (s.port.queue.length ≤ 15 → (∀ l, (s.line l).queue.length ≤ 6) →
            ⟨.tripLatched, s.ownSlot, s.runId, none, 7, s.clock⟩ ∈ t.port.queue)
          ∧ t.own.status.trip = some .localTrip
          ∧ (s.listening = false → (∀ l, t.carries l (.trip .localTrip))
              ∧ (s.own.status.trip = none → ∀ l, t.statusWaits l)))
      ∧ Settled { s with pins := { s.pins with emergencyStop := true } } t)
  ∧ (∀ s : State, s.phase = .running →
    ∃ t, exec .emergencyStopInactive s = .next t
      ∧ Settled { s with pins := { s.pins with emergencyStop := false } } t)
  ∧ ∀ s : State, s.phase = .running →
    ∃ t, exec .trip s = .next t ∧ Answered .trip .done s t
      ∧ (s.trips.latch = none → t.trips.latch = some .localTrip ∧ t.run.state = .tripped ∧ t.profile.proof = s.profile.proof
          ∧ (s.run.state ≠ .tripped → s.endedByTrip t)
          ∧ (s.port.queue.length ≤ 14 → (∀ l, (s.line l).queue.length ≤ 6) →
            ⟨.tripLatched, s.ownSlot, s.runId, none, 7, s.clock⟩ ∈ t.port.queue)
          ∧ t.own.status.trip = some .localTrip
          ∧ (s.listening = false → (∀ l, t.carries l (.trip .localTrip))
              ∧ (s.own.status.trip = none → ∀ l, t.statusWaits l)))

/-- RESET_TRIP: the tests in their order. DONE clears the latch and queues TRIP_CLEARED with the cause; a station with an origin left
stays in TRIPPED, one without goes to IDLE without a run; a request of the same moment that found the latch set sets it again (R172,
R174). TRIPPED ends as log 16 says, its consent view stands (log 38), and what a moment is, is the model's (log 45). -/
def Obligations.ResetTripIsTestedInOrder : Prop :=
  ∀ s : State, s.phase = .running →
    ∃ t, exec .resetTrip s = .next t
      ∧ (s.trips.latch = none → Answered .resetTrip .nothingToDo s t)
      ∧ ∀ c, s.trips.latch = some c →
          (c = .recon ∨ c = .config → Answered .resetTrip .refusedLatched s t)
          ∧ (c ≠ .recon → c ≠ .config →
              (s.pins.emergencyStop = true → Answered .resetTrip .wrongState s t)
              ∧ (s.pins.emergencyStop = false → s.lineStandstill = false → Answered .resetTrip .refusedMoving s t)
              ∧ (s.pins.emergencyStop = false → s.lineStandstill = true →
                  t.port.busy = false ∧ t.port.code = 12 ∧ t.port.result = .done ∧ t.port.unread = true
                  ∧ (s.port.queue.length ≤ 2 →
                      ⟨.tripCleared, s.ownSlot, s.runId, none, (c.code : Int), s.clock⟩ ∈ t.port.queue)
                  ∧ t.trips.origins = s.trips.origins
                  ∧ (s.trips.kept = none → s.run.state = .tripped → (∃ i, s.trips.origins.get i ≠ none) →
                      s.overspeed ≠ .trip → t.trips.latch = none ∧ t.run.state = .tripped)
                  ∧ (s.trips.kept = none → s.run.state = .tripped → (∀ i, s.trips.origins.get i = none) →
                      { s with trips := { s.trips with latch := none } }.AtRest →
                      s.isDrive = true ∨ (∀ d, s.driveRecord = some d →
                        d.2.runState ≠ .moving ∧ d.2.runState ≠ .stopping ∧ d.2.runState ≠ .dwell) →
                      t.trips.latch = none ∧ t.run.state = .idle
                      ∧ t.run.run = { RunRecord.empty with consents := s.run.run.consents }
                      ∧ (s.listening = false → ∀ l, t.statusWaits l))
                  ∧ (∀ k, s.trips.kept = some k → s.run.state = .tripped → t.trips.latch = some k ∧ t.run.state = .tripped
                      ∧ (k = .recon → t.profile.proof = 0 ∧ t.own.status.proof = 0)
                      ∧ (s.port.queue.length ≤ 12 → (∀ l, (s.line l).queue.length ≤ 6) → ∃ pre post,
                          t.port.queue = pre ++ ⟨.tripLatched, s.ownSlot, s.runId, none, (k.code : Int), s.clock⟩ :: post
                          ∧ ⟨.tripCleared, s.ownSlot, s.runId, none, (c.code : Int), s.clock⟩ ∈ pre))
                  ∧ (s.trips.kept = none → s.isDrive = true → s.pos.quality = .unknown → s.sup = ⟨none, [], 0⟩ → s.enteredAll = [] →
                      0 ≤ s.params.tolTrip → (∀ i, s.trips.origins.get i = none) → s.run.state = .tripped →
                      t.trips.latch = none ∧ t.run.state = .idle ∧ t.run.run.hdr = none)))

/-- The DRIVE's stage pattern and emergency brake by the cases of R164; a FAILED stage is applied in every case (R162). The parking level
is the largest that a block and a combination of loads require (R165), and parking level and PARK_DEGRADED stand so after every step
(R166). That no level is requested while parking does not apply is the model's choice (log 23), and so is that it is formed anew after
every event (log 31). The combined demand is the highest of the own one and those of PRESENT and EXCLUDED records (R141), and NONE in
CONFIG_FAULT before a first record (R143). -/
def Obligations.BrakeCasesOfTheDrive : Prop :=
  (∀ s : State, s.phase = .running → s.isDrive = true → s.brakesSound →
    (∀ st, (s.brakes.unit st).failed = true → outputOfStage s.outputs st = true)
    ∧ (s.tripAsserted = true → s.outputs.emergencyBrake = true ∧ ∀ st, outputOfStage s.outputs st = true)
    ∧ (s.tripAsserted = false → s.combinedDemand = .service ∨ s.combinedDemand = .trip →
        s.outputs.emergencyBrake = false ∧ ∀ st, outputOfStage s.outputs st = true)
    ∧ (s.tripAsserted = false → s.combinedDemand = .none ∨ s.combinedDemand = .advise →
        (s.run.state = .moving ∨ s.run.state = .stopping →
          s.outputs.emergencyBrake = false
          ∧ ∀ st, (s.brakes.unit st).failed = false → outputOfStage s.outputs st = false)
        ∧ (s.run.state ≠ .moving → s.run.state ≠ .stopping →
            (s.brakes.parkDegraded = true → s.outputs.emergencyBrake = true ∧ ∀ st, outputOfStage s.outputs st = true)
            ∧ (s.brakes.parkDegraded = false → s.outputs.emergencyBrake = false
                ∧ ∀ r, s.brakes.parkRequested = some r → ∀ st, (s.brakes.unit st).failed = false →
                    (outputOfStage s.outputs st = true ↔ s.brakes.appliedLevel r / stageWeight st % 2 = 1)))))
  ∧ (∀ s t : State, s.parkingSound → step s = .next t → t.parkingSound)
  ∧ (∀ s : State,
    let heard (i : Slot) : Prop := (s.peer i).state = .present ∨ (s.peer i).state = .excluded
    (s.configFault = true → (∀ i, (s.peer i).state = .absent) → s.combinedDemand = .none)
    ∧ (s.configFault = false ∨ (∃ i, (s.peer i).state ≠ .absent) →
        s.env.demand.code ≤ s.combinedDemand.code
        ∧ (∀ i st, heard i → (s.peer i).contents = some st → st.demand.code ≤ s.combinedDemand.code)
        ∧ (s.combinedDemand = s.env.demand
          ∨ ∃ i st, heard i ∧ (s.peer i).contents = some st ∧ s.combinedDemand = st.demand)))
  ∧ ∀ s : State,
    let load (car : Role) (w : Int) : Prop :=
      s.loadInUse car = some w ∨ (s.loadInUse car = none ∧ (w = 0 ∨ w = s.params.maxLoad))
    let parked (k : Nat) : Prop := if s.pos.quality = .unknown then k < s.blocks.length else k = s.blockOf s.pos.x
    let required (k : Nat) (a b : Int) : Int :=
      let mA := s.params.mCar + a
      let mB := s.params.mCar + b
      let drift := mB * (s.block k).sB - mA * (s.block k).sA + (s.block k).balance
      ceilDiv (magnitude (9807 * drift) * s.params.parkFactor)
        (1000 * (mA + mB + s.params.mExtra) * 100 * s.params.aUnit)
    (∀ k a b, parked k → load .carA a → load .carB b → required k a b ≤ s.parkingRequired)
    ∧ (s.blocks ≠ [] → ∃ k a b, parked k ∧ load .carA a ∧ load .carB b ∧ required k a b = s.parkingRequired)

/-- Achievable levels, the highest one, and the applied level for a requested one (R163); the available deceleration A from the highest
level (R130), and the guaranteed deceleration of a block and direction, the lowest over the loads, with the entry in use and the lowest of
a range of blocks (R128, R129, R131). -/
def Obligations.AppliedLevelIsTheSmallestAchievable : Prop :=
  (∀ b : Brakes,
    (∀ level, b.achievable level = true ↔
      ∃ on : List Stage, on.Sublist allStages ∧ (∀ st ∈ on, (b.unit st).failed = false) ∧ (on.map stageWeight).sum = level)
    ∧ b.highest = ((allStages.filter fun st => !(b.unit st).failed).map stageWeight).sum
    ∧ (∀ st, levelCommands b.highest st = !(b.unit st).failed)
    ∧ ∀ r : Int, b.achievable (b.appliedLevel r) = true
        ∧ ((∃ level, b.achievable level = true ∧ r ≤ (level : Int)) → r ≤ (b.appliedLevel r : Int)
            ∧ ∀ level, b.achievable level = true → r ≤ (level : Int) → b.appliedLevel r ≤ level)
        ∧ ((∀ level, b.achievable level = true → (level : Int) < r) → b.appliedLevel r = b.highest))
  ∧ (∀ s : State, s.serviceDecel = (if s.isDrive = true then (s.brakes.highest : Int) else 15) * s.params.aUnit)
  ∧ (∀ n d : Int, 0 < d → floorDiv n d * d ≤ n ∧ n < (floorDiv n d + 1) * d)
  ∧ (∀ (s : State) (dir : Dir) (k : Nat),
    let load (car : Role) (w : Int) : Prop :=
      s.loadInUse car = some w ∨ (s.loadInUse car = none ∧ (w = 0 ∨ w = s.params.maxLoad))
    let decel (a b : Int) : Int :=
      let mA := s.params.mCar + a
      let mB := s.params.mCar + b
      let m := mA + mB + s.params.mExtra
      let drift := mB * (s.block k).sB - mA * (s.block k).sA + (s.block k).balance
      min s.params.aCap (floorDiv (s.serviceDecel * 1000 * m - dir.sgn * 9807 * drift) (1000 * m))
    (∀ a b, load .carA a → load .carB b → s.guaranteed dir k ≤ decel a b)
    ∧ ∃ a b, load .carA a ∧ load .carB b ∧ s.guaranteed dir k = decel a b)
  ∧ ∀ s : State, (∀ k, (∀ d, s.runDir = some d → s.guaranteedInUse k = s.guaranteed d k)
      ∧ (s.runDir = none → s.guaranteedInUse k = min (s.guaranteed .up k) (s.guaranteed .down k)))
    ∧ ∀ i j, (∀ k, min i j ≤ k → k ≤ max i j → s.lowestGuaranteed i j ≤ s.guaranteedInUse k)
      ∧ ∃ k, min i j ≤ k ∧ k ≤ max i j ∧ s.lowestGuaranteed i j = s.guaranteedInUse k

/-! ### Envelope -/

/-- The stopping distance, and the deceleration every target uses within a_floor and a_cap (R132). The targets are the end of authority
and the boundaries ahead at which the limit drops (R133); their levels, the binding one, and the levels from overspeed and uncommanded
motion follow their tables (R135 to R138), and the station level is the highest, whose TRIP latches the first cause that applies and
stands so after every step (R127, R139, R140). The own demand rises at once and falls from SERVICE only with the level at NONE or at line
standstill (R140). A part of an event that changes what R127 lists is evaluated before the next part, and its TRIP latched. That an
evaluation ends every event, what a part is and in which order parts are taken are the model's choices (logs 31, 57), and so is that the
first of equal targets binds (log 50). -/
def Obligations.StoppingDistanceOfEveryTarget : Prop :=
  (∀ tR v vt a : Int, (vt < v → stoppingDistance tR v vt a = ceilDiv (v * tR) 1000 + ceilDiv (v ^ 2 - vt ^ 2) (2 * a))
    ∧ (v ≤ vt → stoppingDistance tR v vt a = 0))
  ∧ (∀ n d : Int, 0 < d → n ≤ ceilDiv n d * d ∧ (ceilDiv n d - 1) * d < n)
  ∧ (∀ (s : State) (t : Target), s.params.aFloor ≤ s.params.aCap → ∃ a : Int, s.params.aFloor ≤ a ∧ a ≤ s.params.aCap
    ∧ (s.params.aFloor ≤ s.lowestGuaranteed (s.blockOf s.xSup) t.block →
        a = s.lowestGuaranteed (s.blockOf s.xSup) t.block)
    ∧ (s.lowestGuaranteed (s.blockOf s.xSup) t.block < s.params.aFloor → a = s.params.aFloor ∧ (s.assess t).1 = .trip)
    ∧ (s.assess t).2.stopping = stoppingDistance s.params.tR (magnitude s.vSup) t.speed a)
  ∧ (∀ (s : State) (t : Target),
    let boundary (d : Dir) (x eoa : Int) (k left entered : Nat) : Prop :=
      t = ⟨s.startOf k, s.limit entered, entered⟩ ∧ 0 < d.sgn * (s.startOf k - x) ∧ 0 < d.sgn * (eoa - s.startOf k)
      ∧ s.limit entered < s.limit left
    t ∈ s.targets ↔ s.inMotion = true ∧ ∃ x v d stop allowance, s.sup.est = some (x, v) ∧ s.runDir = some d
      ∧ s.stopInUse = some (stop, allowance)
      ∧ (t = ⟨stop + d.sgn * allowance, 0, s.blockOf (stop + d.sgn * allowance)⟩
        ∨ ∃ k, 1 ≤ k ∧ k < s.blocks.length
          ∧ ((d = .up ∧ boundary d x (stop + d.sgn * allowance) k (k - 1) k)
            ∨ (d = .down ∧ boundary d x (stop + d.sgn * allowance) k k (k - 1)))))
  ∧ (∀ (s : State) (t : Target),
    let ahead := s.dirSgn * (t.position - s.xSup)
    let needed := (s.assess t).2.stopping
    let level := (s.assess t).1
    (s.lowestGuaranteed (s.blockOf s.xSup) t.block < s.params.aFloor → level = .trip)
    ∧ (s.params.aFloor ≤ s.lowestGuaranteed (s.blockOf s.xSup) t.block →
      (ahead < needed → level = .trip)
      ∧ (needed ≤ ahead → ahead < needed + s.params.mSvc → level = .service)
      ∧ (needed ≤ ahead → needed + s.params.mSvc ≤ ahead → ahead < needed + s.params.mAdv → level = .advise)
      ∧ (needed ≤ ahead → needed + s.params.mSvc ≤ ahead → needed + s.params.mAdv ≤ ahead → level = .none)))
  ∧ (∀ ts : List (Level × Binding), (ts ≠ [] → bindingOf ts ≠ none) ∧ ∀ b, bindingOf ts = some b → b ∈ ts
      ∧ ∀ t ∈ ts, t.1.code ≤ b.1.code
        ∧ (t.1 = b.1 → b.2.distance - b.2.stopping ≤ t.2.distance - t.2.stopping))
  ∧ (∀ s : State, (s.sup.est = none → s.overspeed = .none) ∧ ∀ x v, s.sup.est = some (x, v) →
      (s.limit (s.blockOf x) + s.params.dTrip < magnitude v → s.overspeed = .trip)
      ∧ (magnitude v ≤ s.limit (s.blockOf x) + s.params.dTrip → s.limit (s.blockOf x) + s.params.dSvc < magnitude v →
          s.overspeed = .service)
      ∧ (magnitude v ≤ s.limit (s.blockOf x) + s.params.dTrip → magnitude v ≤ s.limit (s.blockOf x) + s.params.dSvc →
          s.overspeed = .none))
  ∧ (∀ s : State,
    let shown := ∃ j st, s.driveRecord = some (j, st) ∧ (st.runState = .moving ∨ st.runState = .stopping)
    s.uncommanded = true ↔ s.run.state ≠ .tripped ∧ ∃ e ∈ s.sup.entered,
      if s.run.state = .moving ∨ s.run.state = .stopping then s.dirSgn * e.v < -s.params.vStill
      else s.params.vStill < magnitude e.v ∧ ¬(s.run.state = .idle ∧ s.isDrive = false ∧ shown))
  ∧ (∀ s : State,
    let lost := s.sup.est = none ∧ s.inMotion = true
    (∀ t ∈ s.targets, (s.assess t).1.code ≤ s.stationLevel.code) ∧ s.overspeed.code ≤ s.stationLevel.code
    ∧ (s.uncommanded = true → s.stationLevel = .trip) ∧ (lost → 2 ≤ s.stationLevel.code)
    ∧ (s.stationLevel = .none ∨ (∃ t ∈ s.targets, s.stationLevel = (s.assess t).1) ∨ s.stationLevel = s.overspeed
      ∨ (s.stationLevel = .trip ∧ s.uncommanded = true) ∨ (s.stationLevel = .service ∧ lost))
    ∧ (s.configFault = false → s.stationLevel = .trip → s.trips.latch = none → (evaluate s).trips.latch =
        some (if s.uncommanded = true then .uncommanded else if s.overspeed = .trip then .overspeed else .envelope)))
  ∧ (∀ s : State, s.configFault = false →
    let held := s.env.demand
    let left := (evaluate s).env.demand
    ((evaluate s).trips.latch ≠ none → left = .trip)
    ∧ ((evaluate s).trips.latch = none → (held.code < s.stationLevel.code → left = s.stationLevel)
      ∧ (s.stationLevel.code ≤ held.code →
        (held ≠ .service → left = s.stationLevel)
        ∧ (held = .service → (s.stationLevel = .none ∨ s.lineStandstill = true → left = s.stationLevel)
          ∧ (s.stationLevel ≠ .none → s.lineStandstill = false → left = .service)))))
  ∧ (∀ before s : State, s.configFault = false → s.stationLevel = .trip → s.trips.latch = none →
    before.stopInUse ≠ s.stopInUse ∨ before.run.state ≠ s.run.state
      ∨ (∃ k, k < s.blocks.length ∧ k < before.blocks.length ∧ before.limit k ≠ s.limit k)
      ∨ before.serviceDecel ≠ s.serviceDecel ∨ before.loadInUse .carA ≠ s.loadInUse .carA
      ∨ before.loadInUse .carB ≠ s.loadInUse .carB ∨ before.lineStandstill ≠ s.lineStandstill →
    (reevaluateIfChanged before s).trips.latch = (evaluate s).trips.latch)
  ∧ ∀ s t : State, s.levelSound → step s = .next t → t.levelSound

/-! ### Profile table -/

/-- UNPROVE_ALL leaves every block UNPROVEN, completes with DONE and queues ALL_UNPROVEN with cause value 7 (R12, R13). That
it does so in CONFIG_FAULT too is the model's choice (log 31). -/
def Obligations.UnproveAllLeavesNoProof : Prop :=
  ∀ s : State, s.phase = .running →
    ∃ t, exec .unproveAll s = .next t ∧ Answered .unproveAll .done s t ∧ t.profile.proof = 0
      ∧ (s.port.queue.length ≤ 14 → ⟨.allUnproven, s.ownSlot, s.runId, none, 7, s.clock⟩ ∈ t.port.queue)

/-- SET_RESTRICTION: bad words, removal, and the clamped entry, in the own place alone (R16); that CONFIG_FAULT is tested before the
words is the model's choice (log 34). The effective limit of a block is the smallest of its own, the entries that cover it, v_insp where
it is UNPROVEN or the run is an INSPECTION, and v_max (R15, R18). The DRIVE's drive limit takes the combined proof mask instead of its own
map, so it is never above: a block is proven there where it is in the own map and in the mask of every PRESENT record (R14, R19). -/
def Obligations.SetRestrictionSetsTheOwnEntry : Prop :=
  (∀ s : State, s.phase = .running →
    let side := (s.port.params.get 0).toInt
    let count := (s.port.params.get 1).toInt
    let complement := (s.port.params.get 2).toInt
    let speed := (s.port.params.get 3).toInt
    let bad := (side ≠ 1 ∧ side ≠ 2) ∨ (complement ≠ 0 ∧ complement ≠ 1)
    let n : Int := s.blocks.length
    let newCount := min (max 0 count) n
    let newSpeed := max s.params.vCreep (min s.params.vMax speed)
    ∃ t, exec .setRestriction s = .next t
      ∧ t.port.busy = false ∧ t.port.code = 10 ∧ t.port.unread = true
      ∧ (∀ j, j ≠ s.ownSlot → t.profile.restrictions.get j = s.profile.restrictions.get j)
      ∧ t.formStatus.restriction = t.profile.restrictions.get s.ownSlot
      ∧ (s.configFault = true → t.port.result = .wrongState
          ∧ t.profile.restrictions.get s.ownSlot = s.profile.restrictions.get s.ownSlot)
      ∧ (s.configFault = false → bad → t.port.result = .outOfRange
          ∧ t.profile.restrictions.get s.ownSlot = s.profile.restrictions.get s.ownSlot)
      ∧ (s.configFault = false → ¬bad → count ≤ 0 → complement = 0 → t.profile.restrictions.get s.ownSlot = none
          ∧ t.port.result = if count < 0 then .doneClamped else .done)
      ∧ (s.configFault = false → ¬bad → 0 < count ∨ complement = 1 →
          t.profile.restrictions.get s.ownSlot
            = some ⟨decide (side = 2), newCount, decide (complement = 1), newSpeed⟩
          ∧ t.port.result = if newCount = count ∧ newSpeed = speed then .done else .doneClamped)
      ∧ t.pos = s.pos ∧ t.peers = s.peers ∧ t.pins = s.pins)
  ∧ ∀ (s : State) (k : Nat),
    let inside (r : Restriction) : Prop := if r.summit = true then (s.blocks.length : Int) - r.count ≤ k else (k : Int) < r.count
    let covering (r : Restriction) : Prop := (∃ i, s.profile.restrictions.get i = some r) ∧ (inside r ↔ r.complement = false)
    let smallest (limit : Int) (unproven : Prop) : Prop :=
      let slow := unproven ∨ s.isKind .inspection = true
      limit ≤ (s.block k).vLim ∧ limit ≤ s.params.vMax ∧ (∀ r, covering r → limit ≤ r.speed) ∧ (slow → limit ≤ s.params.vInsp)
      ∧ (limit = (s.block k).vLim ∨ limit = s.params.vMax ∨ (∃ r, covering r ∧ limit = r.speed) ∨ (slow ∧ limit = s.params.vInsp))
    let unprovenSomewhere := s.proven k = false
      ∨ ∃ i st, (s.peer i).state = .present ∧ (s.peer i).contents = some st ∧ st.proof.getLsbD k = false
    smallest (s.limit k) (s.proven k = false) ∧ smallest (s.driveLimit k) unprovenSomewhere ∧ s.driveLimit k ≤ s.limit k
    ∧ (s.combinedProven k = false ↔ unprovenSomewhere)

/-! ### Station port -/

/-- WRITE_PARAM writes the first words and leaves the others; start-up clears them, and nothing else in operation changes them (R178). A
transfer with no word or with more than six has no effect (R177). -/
def Obligations.WriteParamWritesTheFirstWords : Prop :=
  (∀ (s : State) (ws : List Word32), s.phase = .running → 1 ≤ ws.length → ws.length ≤ 6 →
    ∃ ps : Vector Word32 6, (∀ i : Fin 6, ps.get i = ws.getD i.val (s.port.params.get i))
      ∧ exec (.writeParam ws) s = .next { s with
          port := { s.port with params := ps }, outputs := { s.outputs with attn := s.attnNow } })
  ∧ (∀ (s : State) (ws : List Word32), ws.length = 0 ∨ 6 < ws.length → exec (.writeParam ws) s = .next s)
  ∧ (∀ (s : State) (img : List Byte) (pins : PlantPins), s.phase = .loading →
    ∃ t, exec (.startUpComplete img pins) s = .next t ∧ ∀ i, t.port.params.get i = 0)
  ∧ ∀ (c : Instr) (s t : State), s.phase = .running → exec c s = .next t →
    match c with
      | .writeParam _ | .resetAssert => True
      | _ => t.port.params = s.port.params

/-- A transfer spells its command by its operation word and the words after it, and any other transfer spells none (R177, R198): bits
that make no whole words, an operation word with a low bit set or another code, another number of words. The codes 1 to 13 name the
commands of 10.3; that the other bits of a command word are not read is the model's choice (log 46). A code that names no command
completes with OUT_OF_RANGE; a WRITE_COMMAND on a BUSY slot queues CMD_SUPERSEDED with the prior code (R179, R181). -/
def Obligations.UnknownCommandIsOutOfRange : Prop :=
  (∀ ws : List Word32, portWords (ws.flatMap fun w => (List.range 32).map fun i => w.getLsbD (31 - i)) = some ws)
  ∧ (∀ bits : List Bool, bits.length % 32 ≠ 0 → portWords bits = none)
  ∧ (∀ bits : List Bool, decodeTransfer bits = (portWords bits).bind transferCommand)
  ∧ (∀ ws : List Word32, 1 ≤ ws.length → ws.length ≤ 6 → transferCommand (0x01000000 :: ws) = some (.writeParam ws))
  ∧ (∀ w : Word32, transferCommand [0x02000000, w] = some (commandOf w))
  ∧ (transferCommand [0x03000000] = some .readResult ∧ transferCommand [0x04000000] = some .readEvent)
  ∧ (∀ w : Word32, transferCommand [0x05000000, w] = some (.readView w))
  ∧ (∀ (op : Word32) (ws : List Word32), transferCommand (op :: ws) ≠ none →
      op = 0x01000000 ∧ 1 ≤ ws.length ∧ ws.length ≤ 6 ∨ op = 0x02000000 ∧ ws.length = 1 ∨ op = 0x03000000 ∧ ws = []
        ∨ op = 0x04000000 ∧ ws = [] ∨ op = 0x05000000 ∧ ws.length = 1)
  ∧ (∀ (w : Word32) (k : Fin 13), w.toNat % 256 = k.val + 1 →
      [Instr.requestRun, .addHalt, .callLoop, .hold, .release, .abort, .confirmReady, .setLoad, .setPosition, .setRestriction,
        .trip, .resetTrip, .unproveAll][k.val]? = some (commandOf w))
  ∧ (∀ w : Word32, w.toNat % 256 = 0 ∨ 13 < w.toNat % 256 → commandOf w = .unknownCommand (w.truncate 8))
  ∧ (∀ (s : State) (bits : List Bool), decodeTransfer bits = none → s.withTransfer bits = s)
  ∧ (∀ (s : State) (bits : List Bool) (c : Instr), decodeTransfer bits = some c → s.pending = [] →
      step (s.withTransfer bits) = exec c s)
  ∧ ∀ (s : State) (code : Byte), s.phase = .running → 13 < code.toNat ∨ code = 0 →
    ∃ t, exec (.unknownCommand code) s = .next t
      ∧ t.port.busy = false ∧ t.port.code = code ∧ t.port.result = .outOfRange ∧ t.port.unread = true
      ∧ (s.port.busy = true → s.port.queue.length ≤ 15 →
          ⟨.cmdSuperseded, s.ownSlot, s.runId, none, (s.port.code.toNat : Int), s.clock⟩ ∈ t.port.queue)
      ∧ Settled (answer .outOfRange (takeSlot code s)) t

/-- READ_EVENT returns the oldest record and removes it when the whole record was clocked out; an empty queue gives an empty record
(R186). The four words of a record hold its kind, slot, run id, block index, value and time (R185, R198; a value outside 32 bits is log 7,
the bits that no field of R198 covers are log 54). -/
def Obligations.ReadEventTakesTheOldestRecord : Prop :=
  (∀ (s : State) (e : EventRecord) (rest : List EventRecord), s.phase = .running → s.port.queue = e :: rest →
    ∃ a, exec .readEvent s = .next a ∧ a.port.reply = some ⟨.event, eventWords e, true⟩ ∧ a.port.queue = s.port.queue
      ∧ (∃ b, exec (.readTransferEnd 128) a = .next b ∧ b.port.queue = rest ∧ b.port.reply = none
          ∧ (b.port.overflow = true ↔ s.port.overflow = true ∧ rest ≠ []) ∧ b.port.unread = s.port.unread)
      ∧ ∀ bits, bits < 128 → ∃ b, exec (.readTransferEnd bits) a = .next b ∧ b.port.queue = s.port.queue
          ∧ b.port.overflow = s.port.overflow ∧ b.port.reply = none)
  ∧ (∀ e : EventRecord, ∃ w0 w1 w2 w3,
      eventWords e = [w0, w1, w2, w3]
      ∧ w0.extractLsb' 24 8 = BitVec.ofNat 8 e.kind.code ∧ w0.extractLsb' 16 8 = BitVec.ofNat 8 e.slot.val
      ∧ (∀ id, e.run = some id → w0.extractLsb' 8 8 = BitVec.ofNat 8 id.origin.val ∧ w0.extractLsb' 0 8 = id.counter)
      ∧ (e.run = none → w0.extractLsb' 8 8 = 255)
      ∧ (∀ b, e.block = some b → w1.extractLsb' 0 8 = BitVec.ofNat 8 b) ∧ (e.block = none → w1.extractLsb' 0 8 = 255)
      ∧ (-(2 ^ 31) ≤ e.value → e.value < 2 ^ 31 → w2 = BitVec.ofInt 32 e.value) ∧ w3 = e.time)
  ∧ ∀ s : State, s.phase = .running → s.port.queue = [] →
    ∃ a, exec .readEvent s = .next a ∧ (a.port.reply.map (·.words)) = some [0, 0, 0, 0] ∧ a.port.queue = []
      ∧ ∃ b, exec (.readTransferEnd 128) a = .next b ∧ b.port.queue = [] ∧ b.port.overflow = s.port.overflow

/-- READ_RESULT returns the result word and clears unread when it was clocked out whole; READ_VIEW returns a status word, DONE or
OUT_OF_RANGE, and as many words as the view has, zeros on OUT_OF_RANGE (R177, R182, R183); fields of each view stand in their words (R184,
R198; a signed value of 32 bits in two's complement, one that does not fit free by log 7, none as the most negative word); that the run view
shows a rejoined station's adopted stop count is log 63, and that it shows v_ref as it stands at the read is log 65. The bits of a reply
come out with bit 31 of each word first, and those clocked up to a word's end are the words before it (R177). A reply is kept until the
transfer ends (log 17); what an unlisted selector answers is the model's choice (log 30). -/
def Obligations.ResultAndViewReplies : Prop :=
  (∀ s : State, s.phase = .running →
    ∃ a, exec .readResult s = .next a ∧ a.port.reply = some ⟨.result, [resultWord s.port], true⟩
      ∧ a.port.unread = s.port.unread ∧ a.port.queue = s.port.queue
      ∧ (∃ b, exec (.readTransferEnd 32) a = .next b ∧ b.port.unread = false ∧ b.port.result = s.port.result
          ∧ b.port.queue = s.port.queue)
      ∧ ∃ b, exec (.readTransferEnd 0) a = .next b ∧ b.port.unread = s.port.unread)
  ∧ (∀ p : Port, (resultWord p).getLsbD 31 = p.busy ∧ (resultWord p).getLsbD 30 = p.unread
      ∧ (resultWord p).getLsbD 29 = p.overflow ∧ (resultWord p).extractLsb' 8 8 = p.code
      ∧ (resultWord p).extractLsb' 0 8 = BitVec.ofNat 8 p.result.code)
  ∧ (∀ v : Int, -(2 ^ 31) ≤ v → v < 2 ^ 31 → intWord v = BitVec.ofInt 32 v)
  ∧ (∀ p : Port, (p.reply = none → p.dataOut = []) ∧ ∀ r, p.reply = some r →
      p.dataOut = (r.words.flatMap fun w => (List.range 32).map fun i => w.getLsbD (31 - i))
      ∧ ∀ k, portWords (p.dataOut.take (32 * k)) = some (r.words.take k))
  ∧ ∀ (s : State) (w : Word32), s.phase = .running →
    let none' : Word32 := 0x80000000
    let opt (o : Option Word32) : Word32 := o.getD none'
    let flag (b : Bool) : Word32 := if b then 1 else 0
    let selector := w.toNat / 16777216
    let index := w.toNat % 16777216
    let valid := selector = 1 ∨ selector = 4 ∨ selector = 5 ∨ (selector = 2 ∧ index < 8)
      ∨ (selector = 3 ∧ s.configFault = false ∧ index < s.blocks.length)
    ∃ t status words, exec (.readView w) s = .next t ∧ t.port.reply = some ⟨.view, status :: words, false⟩
      ∧ (valid → status = 1) ∧ (¬valid → status = 6)
      ∧ (selector = 1 → words.length = 93) ∧ (selector = 2 → words.length = 36) ∧ (selector = 3 → words.length = 18)
      ∧ (selector = 4 → words.length = 24) ∧ (selector = 5 → words.length = 19)
      ∧ (¬valid → ∀ x ∈ words, x = 0)
      ∧ (selector = 1 →
          words[0]? = some (BitVec.ofNat 32 s.ownSlot.val) ∧ words[1]? = some (BitVec.ofNat 32 s.straps.roleCode.val)
          ∧ words[2]? = some (flag s.listening) ∧ words[3]? = some (flag s.configFault)
          ∧ words[8]? = some (BitVec.ofNat 32 s.run.state.code)
          ∧ words[9]? = some (opt (s.runId.map fun id => BitVec.ofNat 32 (id.origin.val * 256 + id.counter.toNat)))
          ∧ words[12]? = some (BitVec.ofNat 32 s.run.run.leg) ∧ words[13]? = some (BitVec.ofNat 32 s.stopCount)
          ∧ (∀ i e, i < 8 → s.run.run.stops[i]? = some e → words[15 + 4 * i]? = some (intWord e.pos)
              ∧ words[16 + 4 * i]? = some (BitVec.ofNat 32 e.kind.code)
              ∧ words[17 + 4 * i]? = some (intWord e.allowance)
              ∧ words[18 + 4 * i]? = some (BitVec.ofNat 32 e.status.code))
          ∧ words[48]? = some (BitVec.ofNat 32 s.run.run.decision.code)
          ∧ words[50]? = some (opt (s.consent.map (BitVec.ofNat 32 ·)))
          ∧ (s.hasEstimate = true → words[65]? = some (intWord s.reportedX)
              ∧ words[66]? = some (intWord s.pos.v) ∧ words[67]? = some (BitVec.ofNat 32 s.pos.quality.code))
          ∧ words[71]? = some (opt (s.sup.est.map fun e => intWord e.1)) ∧ words[72]? = some (opt (s.sup.est.map fun e => intWord e.2))
          ∧ words[73]? = some (intWord s.sup.spread) ∧ words[74]? = some (BitVec.ofNat 32 s.env.level.code)
          ∧ words[82]? = (if s.configFault = true then some none' else some (intWord s.serviceDecel))
          ∧ words[75]? = some (BitVec.ofNat 32 s.env.demand.code)
          ∧ (s.isDrive = true → words[76]? = some (BitVec.ofNat 32 s.combinedDemand.code)
              ∧ words[89]? = some (intWord s.ref.vref)))
      ∧ (selector = 2 → ∀ i : Slot, index = i.val → i ≠ s.ownSlot →
          words[0]? = some (BitVec.ofNat 32 (s.peer i).state.code)
          ∧ words[1]? = some (BitVec.ofNat 32 (s.peer i).exclusion.code)
          ∧ ((s.peer i).state ≠ .absent → words[2]? = some (s.clock - (s.peer i).arrival))
          ∧ ∀ st, (s.peer i).contents = some st → words[3]? = some (BitVec.ofNat 32 st.roleCode.val)
              ∧ words[8]? = some (BitVec.ofNat 32 st.runState.code) ∧ words[14]? = some (flag st.hold)
              ∧ words[17]? = some (intWord st.x) ∧ words[18]? = some (intWord st.v)
              ∧ words[21]? = some (BitVec.ofNat 32 st.demand.code)
              ∧ words[28]? = some (st.proof.extractLsb' 32 32) ∧ words[29]? = some (st.proof.extractLsb' 0 32))
      ∧ (selector = 3 → valid →
          words[0]? = some (intWord (s.block index).length) ∧ words[1]? = some (intWord (s.block index).vLim)
          ∧ words[9]? = some (intWord (s.startOf index)) ∧ words[10]? = some (intWord (s.endOf index))
          ∧ words[11]? = some (flag (s.proven index)) ∧ words[12]? = some (intWord (s.limit index))
          ∧ (s.isDrive = true → words[13]? = some (intWord (s.driveLimit index))
            ∧ words[14]? = some (intWord (s.guaranteed .up index))
            ∧ words[15]? = some (flag (decide (s.guaranteed .up index < s.params.aFloor)))
            ∧ words[16]? = some (intWord (s.guaranteed .down index))
            ∧ words[17]? = some (flag (decide (s.guaranteed .down index < s.params.aFloor)))))
      ∧ (selector = 4 → s.isDrive = false → ∀ x ∈ words, x = none')
      ∧ (selector = 4 → s.isDrive = true → words[3]? = some (flag s.brakes.stage1.failed)
          ∧ words[20]? = some (BitVec.ofNat 32 s.brakes.highest) ∧ words[23]? = some (flag s.brakes.parkDegraded))
      ∧ (selector = 5 →
          words[0]? = some (flag s.trips.latch.isSome)
          ∧ words[1]? = some (BitVec.ofNat 32 ((s.trips.latch.map TripCause.code).getD 0))
          ∧ (∀ i : Slot, words[3 + i.val]?
              = some (BitVec.ofNat 32 (((s.trips.origins.get i).map TripCause.code).getD 0)))
          ∧ words[11]? = some (flag s.pins.emergencyStop) ∧ words[12]? = some (flag s.tripAsserted))
      ∧ t.port.queue = s.port.queue ∧ t.port.unread = s.port.unread ∧ t.run = s.run ∧ t.peers = s.peers
end

