-- ==== Sys2Proof/Laws/State.lean ====
section
/-! SUPPORT. What each update of one block changes and leaves, one lemma for a field, so that no proof unfolds a record update. -/

namespace Sys2Proof.Machine

variable (s : State)

@[simp] theorem State.onPort_pending (f : Port → Port) : (s.onPort f).pending = s.pending := rfl
@[simp] theorem State.onPort_phase (f : Port → Port) : (s.onPort f).phase = s.phase := rfl
@[simp] theorem State.onPort_clock (f : Port → Port) : (s.onPort f).clock = s.clock := rfl
@[simp] theorem State.onPort_straps (f : Port → Port) : (s.onPort f).straps = s.straps := rfl
@[simp] theorem State.onPort_loader (f : Port → Port) : (s.onPort f).loader = s.loader := rfl
@[simp] theorem State.onPort_pins (f : Port → Port) : (s.onPort f).pins = s.pins := rfl
@[simp] theorem State.onPort_outputs (f : Port → Port) : (s.onPort f).outputs = s.outputs := rfl
@[simp] theorem State.onPort_rx (f : Port → Port) : (s.onPort f).rx = s.rx := rfl
@[simp] theorem State.onPort_line1 (f : Port → Port) : (s.onPort f).line1 = s.line1 := rfl
@[simp] theorem State.onPort_line2 (f : Port → Port) : (s.onPort f).line2 = s.line2 := rfl
@[simp] theorem State.onPort_peers (f : Port → Port) : (s.onPort f).peers = s.peers := rfl
@[simp] theorem State.onPort_own (f : Port → Port) : (s.onPort f).own = s.own := rfl
@[simp] theorem State.onPort_peerCtl (f : Port → Port) : (s.onPort f).peerCtl = s.peerCtl := rfl
@[simp] theorem State.onPort_sup (f : Port → Port) : (s.onPort f).sup = s.sup := rfl
@[simp] theorem State.onPort_car (f : Port → Port) : (s.onPort f).car = s.car := rfl
@[simp] theorem State.onPort_pos (f : Port → Port) : (s.onPort f).pos = s.pos := rfl
@[simp] theorem State.onPort_marker (f : Port → Port) : (s.onPort f).marker = s.marker := rfl
@[simp] theorem State.onPort_det (f : Port → Port) : (s.onPort f).det = s.det := rfl
@[simp] theorem State.onPort_profile (f : Port → Port) : (s.onPort f).profile = s.profile := rfl
@[simp] theorem State.onPort_run (f : Port → Port) : (s.onPort f).run = s.run := rfl
@[simp] theorem State.onPort_ref (f : Port → Port) : (s.onPort f).ref = s.ref := rfl
@[simp] theorem State.onPort_env (f : Port → Port) : (s.onPort f).env = s.env := rfl
@[simp] theorem State.onPort_brakes (f : Port → Port) : (s.onPort f).brakes = s.brakes := rfl
@[simp] theorem State.onPort_trips (f : Port → Port) : (s.onPort f).trips = s.trips := rfl
@[simp] theorem State.onPort_port (f : Port → Port) : (s.onPort f).port = f s.port := rfl
@[simp] theorem State.onPort_freeUses (f : Port → Port) : (s.onPort f).freeUses = s.freeUses := rfl

@[simp] theorem State.onTrips_pending (f : Trips → Trips) : (s.onTrips f).pending = s.pending := rfl
@[simp] theorem State.onTrips_phase (f : Trips → Trips) : (s.onTrips f).phase = s.phase := rfl
@[simp] theorem State.onTrips_clock (f : Trips → Trips) : (s.onTrips f).clock = s.clock := rfl
@[simp] theorem State.onTrips_straps (f : Trips → Trips) : (s.onTrips f).straps = s.straps := rfl
@[simp] theorem State.onTrips_loader (f : Trips → Trips) : (s.onTrips f).loader = s.loader := rfl
@[simp] theorem State.onTrips_pins (f : Trips → Trips) : (s.onTrips f).pins = s.pins := rfl
@[simp] theorem State.onTrips_outputs (f : Trips → Trips) : (s.onTrips f).outputs = s.outputs := rfl
@[simp] theorem State.onTrips_rx (f : Trips → Trips) : (s.onTrips f).rx = s.rx := rfl
@[simp] theorem State.onTrips_line1 (f : Trips → Trips) : (s.onTrips f).line1 = s.line1 := rfl
@[simp] theorem State.onTrips_line2 (f : Trips → Trips) : (s.onTrips f).line2 = s.line2 := rfl
@[simp] theorem State.onTrips_peers (f : Trips → Trips) : (s.onTrips f).peers = s.peers := rfl
@[simp] theorem State.onTrips_own (f : Trips → Trips) : (s.onTrips f).own = s.own := rfl
@[simp] theorem State.onTrips_peerCtl (f : Trips → Trips) : (s.onTrips f).peerCtl = s.peerCtl := rfl
@[simp] theorem State.onTrips_sup (f : Trips → Trips) : (s.onTrips f).sup = s.sup := rfl
@[simp] theorem State.onTrips_car (f : Trips → Trips) : (s.onTrips f).car = s.car := rfl
@[simp] theorem State.onTrips_pos (f : Trips → Trips) : (s.onTrips f).pos = s.pos := rfl
@[simp] theorem State.onTrips_marker (f : Trips → Trips) : (s.onTrips f).marker = s.marker := rfl
@[simp] theorem State.onTrips_det (f : Trips → Trips) : (s.onTrips f).det = s.det := rfl
@[simp] theorem State.onTrips_profile (f : Trips → Trips) : (s.onTrips f).profile = s.profile := rfl
@[simp] theorem State.onTrips_run (f : Trips → Trips) : (s.onTrips f).run = s.run := rfl
@[simp] theorem State.onTrips_ref (f : Trips → Trips) : (s.onTrips f).ref = s.ref := rfl
@[simp] theorem State.onTrips_env (f : Trips → Trips) : (s.onTrips f).env = s.env := rfl
@[simp] theorem State.onTrips_brakes (f : Trips → Trips) : (s.onTrips f).brakes = s.brakes := rfl
@[simp] theorem State.onTrips_trips (f : Trips → Trips) : (s.onTrips f).trips = f s.trips := rfl
@[simp] theorem State.onTrips_port (f : Trips → Trips) : (s.onTrips f).port = s.port := rfl
@[simp] theorem State.onTrips_freeUses (f : Trips → Trips) : (s.onTrips f).freeUses = s.freeUses := rfl

@[simp] theorem State.onEnv_pending (f : Env → Env) : (s.onEnv f).pending = s.pending := rfl
@[simp] theorem State.onEnv_phase (f : Env → Env) : (s.onEnv f).phase = s.phase := rfl
@[simp] theorem State.onEnv_clock (f : Env → Env) : (s.onEnv f).clock = s.clock := rfl
@[simp] theorem State.onEnv_straps (f : Env → Env) : (s.onEnv f).straps = s.straps := rfl
@[simp] theorem State.onEnv_loader (f : Env → Env) : (s.onEnv f).loader = s.loader := rfl
@[simp] theorem State.onEnv_pins (f : Env → Env) : (s.onEnv f).pins = s.pins := rfl
@[simp] theorem State.onEnv_outputs (f : Env → Env) : (s.onEnv f).outputs = s.outputs := rfl
@[simp] theorem State.onEnv_rx (f : Env → Env) : (s.onEnv f).rx = s.rx := rfl
@[simp] theorem State.onEnv_line1 (f : Env → Env) : (s.onEnv f).line1 = s.line1 := rfl
@[simp] theorem State.onEnv_line2 (f : Env → Env) : (s.onEnv f).line2 = s.line2 := rfl
@[simp] theorem State.onEnv_peers (f : Env → Env) : (s.onEnv f).peers = s.peers := rfl
@[simp] theorem State.onEnv_own (f : Env → Env) : (s.onEnv f).own = s.own := rfl
@[simp] theorem State.onEnv_peerCtl (f : Env → Env) : (s.onEnv f).peerCtl = s.peerCtl := rfl
@[simp] theorem State.onEnv_sup (f : Env → Env) : (s.onEnv f).sup = s.sup := rfl
@[simp] theorem State.onEnv_car (f : Env → Env) : (s.onEnv f).car = s.car := rfl
@[simp] theorem State.onEnv_pos (f : Env → Env) : (s.onEnv f).pos = s.pos := rfl
@[simp] theorem State.onEnv_marker (f : Env → Env) : (s.onEnv f).marker = s.marker := rfl
@[simp] theorem State.onEnv_det (f : Env → Env) : (s.onEnv f).det = s.det := rfl
@[simp] theorem State.onEnv_profile (f : Env → Env) : (s.onEnv f).profile = s.profile := rfl
@[simp] theorem State.onEnv_run (f : Env → Env) : (s.onEnv f).run = s.run := rfl
@[simp] theorem State.onEnv_ref (f : Env → Env) : (s.onEnv f).ref = s.ref := rfl
@[simp] theorem State.onEnv_env (f : Env → Env) : (s.onEnv f).env = f s.env := rfl
@[simp] theorem State.onEnv_brakes (f : Env → Env) : (s.onEnv f).brakes = s.brakes := rfl
@[simp] theorem State.onEnv_trips (f : Env → Env) : (s.onEnv f).trips = s.trips := rfl
@[simp] theorem State.onEnv_port (f : Env → Env) : (s.onEnv f).port = s.port := rfl
@[simp] theorem State.onEnv_freeUses (f : Env → Env) : (s.onEnv f).freeUses = s.freeUses := rfl

@[simp] theorem State.onBrakes_pending (f : Brakes → Brakes) : (s.onBrakes f).pending = s.pending := rfl
@[simp] theorem State.onBrakes_phase (f : Brakes → Brakes) : (s.onBrakes f).phase = s.phase := rfl
@[simp] theorem State.onBrakes_clock (f : Brakes → Brakes) : (s.onBrakes f).clock = s.clock := rfl
@[simp] theorem State.onBrakes_straps (f : Brakes → Brakes) : (s.onBrakes f).straps = s.straps := rfl
@[simp] theorem State.onBrakes_loader (f : Brakes → Brakes) : (s.onBrakes f).loader = s.loader := rfl
@[simp] theorem State.onBrakes_pins (f : Brakes → Brakes) : (s.onBrakes f).pins = s.pins := rfl
@[simp] theorem State.onBrakes_outputs (f : Brakes → Brakes) : (s.onBrakes f).outputs = s.outputs := rfl
@[simp] theorem State.onBrakes_rx (f : Brakes → Brakes) : (s.onBrakes f).rx = s.rx := rfl
@[simp] theorem State.onBrakes_line1 (f : Brakes → Brakes) : (s.onBrakes f).line1 = s.line1 := rfl
@[simp] theorem State.onBrakes_line2 (f : Brakes → Brakes) : (s.onBrakes f).line2 = s.line2 := rfl
@[simp] theorem State.onBrakes_peers (f : Brakes → Brakes) : (s.onBrakes f).peers = s.peers := rfl
@[simp] theorem State.onBrakes_own (f : Brakes → Brakes) : (s.onBrakes f).own = s.own := rfl
@[simp] theorem State.onBrakes_peerCtl (f : Brakes → Brakes) : (s.onBrakes f).peerCtl = s.peerCtl := rfl
@[simp] theorem State.onBrakes_sup (f : Brakes → Brakes) : (s.onBrakes f).sup = s.sup := rfl
@[simp] theorem State.onBrakes_car (f : Brakes → Brakes) : (s.onBrakes f).car = s.car := rfl
@[simp] theorem State.onBrakes_pos (f : Brakes → Brakes) : (s.onBrakes f).pos = s.pos := rfl
@[simp] theorem State.onBrakes_marker (f : Brakes → Brakes) : (s.onBrakes f).marker = s.marker := rfl
@[simp] theorem State.onBrakes_det (f : Brakes → Brakes) : (s.onBrakes f).det = s.det := rfl
@[simp] theorem State.onBrakes_profile (f : Brakes → Brakes) : (s.onBrakes f).profile = s.profile := rfl
@[simp] theorem State.onBrakes_run (f : Brakes → Brakes) : (s.onBrakes f).run = s.run := rfl
@[simp] theorem State.onBrakes_ref (f : Brakes → Brakes) : (s.onBrakes f).ref = s.ref := rfl
@[simp] theorem State.onBrakes_env (f : Brakes → Brakes) : (s.onBrakes f).env = s.env := rfl
@[simp] theorem State.onBrakes_brakes (f : Brakes → Brakes) : (s.onBrakes f).brakes = f s.brakes := rfl
@[simp] theorem State.onBrakes_trips (f : Brakes → Brakes) : (s.onBrakes f).trips = s.trips := rfl
@[simp] theorem State.onBrakes_port (f : Brakes → Brakes) : (s.onBrakes f).port = s.port := rfl
@[simp] theorem State.onBrakes_freeUses (f : Brakes → Brakes) : (s.onBrakes f).freeUses = s.freeUses := rfl

@[simp] theorem State.onRef_pending (f : SpeedRef → SpeedRef) : (s.onRef f).pending = s.pending := rfl
@[simp] theorem State.onRef_phase (f : SpeedRef → SpeedRef) : (s.onRef f).phase = s.phase := rfl
@[simp] theorem State.onRef_clock (f : SpeedRef → SpeedRef) : (s.onRef f).clock = s.clock := rfl
@[simp] theorem State.onRef_straps (f : SpeedRef → SpeedRef) : (s.onRef f).straps = s.straps := rfl
@[simp] theorem State.onRef_loader (f : SpeedRef → SpeedRef) : (s.onRef f).loader = s.loader := rfl
@[simp] theorem State.onRef_pins (f : SpeedRef → SpeedRef) : (s.onRef f).pins = s.pins := rfl
@[simp] theorem State.onRef_outputs (f : SpeedRef → SpeedRef) : (s.onRef f).outputs = s.outputs := rfl
@[simp] theorem State.onRef_rx (f : SpeedRef → SpeedRef) : (s.onRef f).rx = s.rx := rfl
@[simp] theorem State.onRef_line1 (f : SpeedRef → SpeedRef) : (s.onRef f).line1 = s.line1 := rfl
@[simp] theorem State.onRef_line2 (f : SpeedRef → SpeedRef) : (s.onRef f).line2 = s.line2 := rfl
@[simp] theorem State.onRef_peers (f : SpeedRef → SpeedRef) : (s.onRef f).peers = s.peers := rfl
@[simp] theorem State.onRef_own (f : SpeedRef → SpeedRef) : (s.onRef f).own = s.own := rfl
@[simp] theorem State.onRef_peerCtl (f : SpeedRef → SpeedRef) : (s.onRef f).peerCtl = s.peerCtl := rfl
@[simp] theorem State.onRef_sup (f : SpeedRef → SpeedRef) : (s.onRef f).sup = s.sup := rfl
@[simp] theorem State.onRef_car (f : SpeedRef → SpeedRef) : (s.onRef f).car = s.car := rfl
@[simp] theorem State.onRef_pos (f : SpeedRef → SpeedRef) : (s.onRef f).pos = s.pos := rfl
@[simp] theorem State.onRef_marker (f : SpeedRef → SpeedRef) : (s.onRef f).marker = s.marker := rfl
@[simp] theorem State.onRef_det (f : SpeedRef → SpeedRef) : (s.onRef f).det = s.det := rfl
@[simp] theorem State.onRef_profile (f : SpeedRef → SpeedRef) : (s.onRef f).profile = s.profile := rfl
@[simp] theorem State.onRef_run (f : SpeedRef → SpeedRef) : (s.onRef f).run = s.run := rfl
@[simp] theorem State.onRef_ref (f : SpeedRef → SpeedRef) : (s.onRef f).ref = f s.ref := rfl
@[simp] theorem State.onRef_env (f : SpeedRef → SpeedRef) : (s.onRef f).env = s.env := rfl
@[simp] theorem State.onRef_brakes (f : SpeedRef → SpeedRef) : (s.onRef f).brakes = s.brakes := rfl
@[simp] theorem State.onRef_trips (f : SpeedRef → SpeedRef) : (s.onRef f).trips = s.trips := rfl
@[simp] theorem State.onRef_port (f : SpeedRef → SpeedRef) : (s.onRef f).port = s.port := rfl
@[simp] theorem State.onRef_freeUses (f : SpeedRef → SpeedRef) : (s.onRef f).freeUses = s.freeUses := rfl

@[simp] theorem State.onOutputs_pending (f : Outputs → Outputs) : (s.onOutputs f).pending = s.pending := rfl
@[simp] theorem State.onOutputs_phase (f : Outputs → Outputs) : (s.onOutputs f).phase = s.phase := rfl
@[simp] theorem State.onOutputs_clock (f : Outputs → Outputs) : (s.onOutputs f).clock = s.clock := rfl
@[simp] theorem State.onOutputs_straps (f : Outputs → Outputs) : (s.onOutputs f).straps = s.straps := rfl
@[simp] theorem State.onOutputs_loader (f : Outputs → Outputs) : (s.onOutputs f).loader = s.loader := rfl
@[simp] theorem State.onOutputs_pins (f : Outputs → Outputs) : (s.onOutputs f).pins = s.pins := rfl
@[simp] theorem State.onOutputs_outputs (f : Outputs → Outputs) : (s.onOutputs f).outputs = f s.outputs := rfl
@[simp] theorem State.onOutputs_rx (f : Outputs → Outputs) : (s.onOutputs f).rx = s.rx := rfl
@[simp] theorem State.onOutputs_line1 (f : Outputs → Outputs) : (s.onOutputs f).line1 = s.line1 := rfl
@[simp] theorem State.onOutputs_line2 (f : Outputs → Outputs) : (s.onOutputs f).line2 = s.line2 := rfl
@[simp] theorem State.onOutputs_peers (f : Outputs → Outputs) : (s.onOutputs f).peers = s.peers := rfl
@[simp] theorem State.onOutputs_own (f : Outputs → Outputs) : (s.onOutputs f).own = s.own := rfl
@[simp] theorem State.onOutputs_peerCtl (f : Outputs → Outputs) : (s.onOutputs f).peerCtl = s.peerCtl := rfl
@[simp] theorem State.onOutputs_sup (f : Outputs → Outputs) : (s.onOutputs f).sup = s.sup := rfl
@[simp] theorem State.onOutputs_car (f : Outputs → Outputs) : (s.onOutputs f).car = s.car := rfl
@[simp] theorem State.onOutputs_pos (f : Outputs → Outputs) : (s.onOutputs f).pos = s.pos := rfl
@[simp] theorem State.onOutputs_marker (f : Outputs → Outputs) : (s.onOutputs f).marker = s.marker := rfl
@[simp] theorem State.onOutputs_det (f : Outputs → Outputs) : (s.onOutputs f).det = s.det := rfl
@[simp] theorem State.onOutputs_profile (f : Outputs → Outputs) : (s.onOutputs f).profile = s.profile := rfl
@[simp] theorem State.onOutputs_run (f : Outputs → Outputs) : (s.onOutputs f).run = s.run := rfl
@[simp] theorem State.onOutputs_ref (f : Outputs → Outputs) : (s.onOutputs f).ref = s.ref := rfl
@[simp] theorem State.onOutputs_env (f : Outputs → Outputs) : (s.onOutputs f).env = s.env := rfl
@[simp] theorem State.onOutputs_brakes (f : Outputs → Outputs) : (s.onOutputs f).brakes = s.brakes := rfl
@[simp] theorem State.onOutputs_trips (f : Outputs → Outputs) : (s.onOutputs f).trips = s.trips := rfl
@[simp] theorem State.onOutputs_port (f : Outputs → Outputs) : (s.onOutputs f).port = s.port := rfl
@[simp] theorem State.onOutputs_freeUses (f : Outputs → Outputs) : (s.onOutputs f).freeUses = s.freeUses := rfl

@[simp] theorem State.onRx_pending (f : Rx → Rx) : (s.onRx f).pending = s.pending := rfl
@[simp] theorem State.onRx_phase (f : Rx → Rx) : (s.onRx f).phase = s.phase := rfl
@[simp] theorem State.onRx_clock (f : Rx → Rx) : (s.onRx f).clock = s.clock := rfl
@[simp] theorem State.onRx_straps (f : Rx → Rx) : (s.onRx f).straps = s.straps := rfl
@[simp] theorem State.onRx_loader (f : Rx → Rx) : (s.onRx f).loader = s.loader := rfl
@[simp] theorem State.onRx_pins (f : Rx → Rx) : (s.onRx f).pins = s.pins := rfl
@[simp] theorem State.onRx_outputs (f : Rx → Rx) : (s.onRx f).outputs = s.outputs := rfl
@[simp] theorem State.onRx_rx (f : Rx → Rx) : (s.onRx f).rx = f s.rx := rfl
@[simp] theorem State.onRx_line1 (f : Rx → Rx) : (s.onRx f).line1 = s.line1 := rfl
@[simp] theorem State.onRx_line2 (f : Rx → Rx) : (s.onRx f).line2 = s.line2 := rfl
@[simp] theorem State.onRx_peers (f : Rx → Rx) : (s.onRx f).peers = s.peers := rfl
@[simp] theorem State.onRx_own (f : Rx → Rx) : (s.onRx f).own = s.own := rfl
@[simp] theorem State.onRx_peerCtl (f : Rx → Rx) : (s.onRx f).peerCtl = s.peerCtl := rfl
@[simp] theorem State.onRx_sup (f : Rx → Rx) : (s.onRx f).sup = s.sup := rfl
@[simp] theorem State.onRx_car (f : Rx → Rx) : (s.onRx f).car = s.car := rfl
@[simp] theorem State.onRx_pos (f : Rx → Rx) : (s.onRx f).pos = s.pos := rfl
@[simp] theorem State.onRx_marker (f : Rx → Rx) : (s.onRx f).marker = s.marker := rfl
@[simp] theorem State.onRx_det (f : Rx → Rx) : (s.onRx f).det = s.det := rfl
@[simp] theorem State.onRx_profile (f : Rx → Rx) : (s.onRx f).profile = s.profile := rfl
@[simp] theorem State.onRx_run (f : Rx → Rx) : (s.onRx f).run = s.run := rfl
@[simp] theorem State.onRx_ref (f : Rx → Rx) : (s.onRx f).ref = s.ref := rfl
@[simp] theorem State.onRx_env (f : Rx → Rx) : (s.onRx f).env = s.env := rfl
@[simp] theorem State.onRx_brakes (f : Rx → Rx) : (s.onRx f).brakes = s.brakes := rfl
@[simp] theorem State.onRx_trips (f : Rx → Rx) : (s.onRx f).trips = s.trips := rfl
@[simp] theorem State.onRx_port (f : Rx → Rx) : (s.onRx f).port = s.port := rfl
@[simp] theorem State.onRx_freeUses (f : Rx → Rx) : (s.onRx f).freeUses = s.freeUses := rfl

@[simp] theorem State.onPeerCtl_pending (f : PeerCtl → PeerCtl) : (s.onPeerCtl f).pending = s.pending := rfl
@[simp] theorem State.onPeerCtl_phase (f : PeerCtl → PeerCtl) : (s.onPeerCtl f).phase = s.phase := rfl
@[simp] theorem State.onPeerCtl_clock (f : PeerCtl → PeerCtl) : (s.onPeerCtl f).clock = s.clock := rfl
@[simp] theorem State.onPeerCtl_straps (f : PeerCtl → PeerCtl) : (s.onPeerCtl f).straps = s.straps := rfl
@[simp] theorem State.onPeerCtl_loader (f : PeerCtl → PeerCtl) : (s.onPeerCtl f).loader = s.loader := rfl
@[simp] theorem State.onPeerCtl_pins (f : PeerCtl → PeerCtl) : (s.onPeerCtl f).pins = s.pins := rfl
@[simp] theorem State.onPeerCtl_outputs (f : PeerCtl → PeerCtl) : (s.onPeerCtl f).outputs = s.outputs := rfl
@[simp] theorem State.onPeerCtl_rx (f : PeerCtl → PeerCtl) : (s.onPeerCtl f).rx = s.rx := rfl
@[simp] theorem State.onPeerCtl_line1 (f : PeerCtl → PeerCtl) : (s.onPeerCtl f).line1 = s.line1 := rfl
@[simp] theorem State.onPeerCtl_line2 (f : PeerCtl → PeerCtl) : (s.onPeerCtl f).line2 = s.line2 := rfl
@[simp] theorem State.onPeerCtl_peers (f : PeerCtl → PeerCtl) : (s.onPeerCtl f).peers = s.peers := rfl
@[simp] theorem State.onPeerCtl_own (f : PeerCtl → PeerCtl) : (s.onPeerCtl f).own = s.own := rfl
@[simp] theorem State.onPeerCtl_peerCtl (f : PeerCtl → PeerCtl) : (s.onPeerCtl f).peerCtl = f s.peerCtl := rfl
@[simp] theorem State.onPeerCtl_sup (f : PeerCtl → PeerCtl) : (s.onPeerCtl f).sup = s.sup := rfl
@[simp] theorem State.onPeerCtl_car (f : PeerCtl → PeerCtl) : (s.onPeerCtl f).car = s.car := rfl
@[simp] theorem State.onPeerCtl_pos (f : PeerCtl → PeerCtl) : (s.onPeerCtl f).pos = s.pos := rfl
@[simp] theorem State.onPeerCtl_marker (f : PeerCtl → PeerCtl) : (s.onPeerCtl f).marker = s.marker := rfl
@[simp] theorem State.onPeerCtl_det (f : PeerCtl → PeerCtl) : (s.onPeerCtl f).det = s.det := rfl
@[simp] theorem State.onPeerCtl_profile (f : PeerCtl → PeerCtl) : (s.onPeerCtl f).profile = s.profile := rfl
@[simp] theorem State.onPeerCtl_run (f : PeerCtl → PeerCtl) : (s.onPeerCtl f).run = s.run := rfl
@[simp] theorem State.onPeerCtl_ref (f : PeerCtl → PeerCtl) : (s.onPeerCtl f).ref = s.ref := rfl
@[simp] theorem State.onPeerCtl_env (f : PeerCtl → PeerCtl) : (s.onPeerCtl f).env = s.env := rfl
@[simp] theorem State.onPeerCtl_brakes (f : PeerCtl → PeerCtl) : (s.onPeerCtl f).brakes = s.brakes := rfl
@[simp] theorem State.onPeerCtl_trips (f : PeerCtl → PeerCtl) : (s.onPeerCtl f).trips = s.trips := rfl
@[simp] theorem State.onPeerCtl_port (f : PeerCtl → PeerCtl) : (s.onPeerCtl f).port = s.port := rfl
@[simp] theorem State.onPeerCtl_freeUses (f : PeerCtl → PeerCtl) : (s.onPeerCtl f).freeUses = s.freeUses := rfl

@[simp] theorem State.onProfile_pending (f : Profile → Profile) : (s.onProfile f).pending = s.pending := rfl
@[simp] theorem State.onProfile_phase (f : Profile → Profile) : (s.onProfile f).phase = s.phase := rfl
@[simp] theorem State.onProfile_clock (f : Profile → Profile) : (s.onProfile f).clock = s.clock := rfl
@[simp] theorem State.onProfile_straps (f : Profile → Profile) : (s.onProfile f).straps = s.straps := rfl
@[simp] theorem State.onProfile_loader (f : Profile → Profile) : (s.onProfile f).loader = s.loader := rfl
@[simp] theorem State.onProfile_pins (f : Profile → Profile) : (s.onProfile f).pins = s.pins := rfl
@[simp] theorem State.onProfile_outputs (f : Profile → Profile) : (s.onProfile f).outputs = s.outputs := rfl
@[simp] theorem State.onProfile_rx (f : Profile → Profile) : (s.onProfile f).rx = s.rx := rfl
@[simp] theorem State.onProfile_line1 (f : Profile → Profile) : (s.onProfile f).line1 = s.line1 := rfl
@[simp] theorem State.onProfile_line2 (f : Profile → Profile) : (s.onProfile f).line2 = s.line2 := rfl
@[simp] theorem State.onProfile_peers (f : Profile → Profile) : (s.onProfile f).peers = s.peers := rfl
@[simp] theorem State.onProfile_own (f : Profile → Profile) : (s.onProfile f).own = s.own := rfl
@[simp] theorem State.onProfile_peerCtl (f : Profile → Profile) : (s.onProfile f).peerCtl = s.peerCtl := rfl
@[simp] theorem State.onProfile_sup (f : Profile → Profile) : (s.onProfile f).sup = s.sup := rfl
@[simp] theorem State.onProfile_car (f : Profile → Profile) : (s.onProfile f).car = s.car := rfl
@[simp] theorem State.onProfile_pos (f : Profile → Profile) : (s.onProfile f).pos = s.pos := rfl
@[simp] theorem State.onProfile_marker (f : Profile → Profile) : (s.onProfile f).marker = s.marker := rfl
@[simp] theorem State.onProfile_det (f : Profile → Profile) : (s.onProfile f).det = s.det := rfl
@[simp] theorem State.onProfile_profile (f : Profile → Profile) : (s.onProfile f).profile = f s.profile := rfl
@[simp] theorem State.onProfile_run (f : Profile → Profile) : (s.onProfile f).run = s.run := rfl
@[simp] theorem State.onProfile_ref (f : Profile → Profile) : (s.onProfile f).ref = s.ref := rfl
@[simp] theorem State.onProfile_env (f : Profile → Profile) : (s.onProfile f).env = s.env := rfl
@[simp] theorem State.onProfile_brakes (f : Profile → Profile) : (s.onProfile f).brakes = s.brakes := rfl
@[simp] theorem State.onProfile_trips (f : Profile → Profile) : (s.onProfile f).trips = s.trips := rfl
@[simp] theorem State.onProfile_port (f : Profile → Profile) : (s.onProfile f).port = s.port := rfl
@[simp] theorem State.onProfile_freeUses (f : Profile → Profile) : (s.onProfile f).freeUses = s.freeUses := rfl

@[simp] theorem State.onMarker_pending (f : Marker → Marker) : (s.onMarker f).pending = s.pending := rfl
@[simp] theorem State.onMarker_phase (f : Marker → Marker) : (s.onMarker f).phase = s.phase := rfl
@[simp] theorem State.onMarker_clock (f : Marker → Marker) : (s.onMarker f).clock = s.clock := rfl
@[simp] theorem State.onMarker_straps (f : Marker → Marker) : (s.onMarker f).straps = s.straps := rfl
@[simp] theorem State.onMarker_loader (f : Marker → Marker) : (s.onMarker f).loader = s.loader := rfl
@[simp] theorem State.onMarker_pins (f : Marker → Marker) : (s.onMarker f).pins = s.pins := rfl
@[simp] theorem State.onMarker_outputs (f : Marker → Marker) : (s.onMarker f).outputs = s.outputs := rfl
@[simp] theorem State.onMarker_rx (f : Marker → Marker) : (s.onMarker f).rx = s.rx := rfl
@[simp] theorem State.onMarker_line1 (f : Marker → Marker) : (s.onMarker f).line1 = s.line1 := rfl
@[simp] theorem State.onMarker_line2 (f : Marker → Marker) : (s.onMarker f).line2 = s.line2 := rfl
@[simp] theorem State.onMarker_peers (f : Marker → Marker) : (s.onMarker f).peers = s.peers := rfl
@[simp] theorem State.onMarker_own (f : Marker → Marker) : (s.onMarker f).own = s.own := rfl
@[simp] theorem State.onMarker_peerCtl (f : Marker → Marker) : (s.onMarker f).peerCtl = s.peerCtl := rfl
@[simp] theorem State.onMarker_sup (f : Marker → Marker) : (s.onMarker f).sup = s.sup := rfl
@[simp] theorem State.onMarker_car (f : Marker → Marker) : (s.onMarker f).car = s.car := rfl
@[simp] theorem State.onMarker_pos (f : Marker → Marker) : (s.onMarker f).pos = s.pos := rfl
@[simp] theorem State.onMarker_marker (f : Marker → Marker) : (s.onMarker f).marker = f s.marker := rfl
@[simp] theorem State.onMarker_det (f : Marker → Marker) : (s.onMarker f).det = s.det := rfl
@[simp] theorem State.onMarker_profile (f : Marker → Marker) : (s.onMarker f).profile = s.profile := rfl
@[simp] theorem State.onMarker_run (f : Marker → Marker) : (s.onMarker f).run = s.run := rfl
@[simp] theorem State.onMarker_ref (f : Marker → Marker) : (s.onMarker f).ref = s.ref := rfl
@[simp] theorem State.onMarker_env (f : Marker → Marker) : (s.onMarker f).env = s.env := rfl
@[simp] theorem State.onMarker_brakes (f : Marker → Marker) : (s.onMarker f).brakes = s.brakes := rfl
@[simp] theorem State.onMarker_trips (f : Marker → Marker) : (s.onMarker f).trips = s.trips := rfl
@[simp] theorem State.onMarker_port (f : Marker → Marker) : (s.onMarker f).port = s.port := rfl
@[simp] theorem State.onMarker_freeUses (f : Marker → Marker) : (s.onMarker f).freeUses = s.freeUses := rfl

@[simp] theorem State.onPos_pending (f : Pos → Pos) : (s.onPos f).pending = s.pending := rfl
@[simp] theorem State.onPos_phase (f : Pos → Pos) : (s.onPos f).phase = s.phase := rfl
@[simp] theorem State.onPos_clock (f : Pos → Pos) : (s.onPos f).clock = s.clock := rfl
@[simp] theorem State.onPos_straps (f : Pos → Pos) : (s.onPos f).straps = s.straps := rfl
@[simp] theorem State.onPos_loader (f : Pos → Pos) : (s.onPos f).loader = s.loader := rfl
@[simp] theorem State.onPos_pins (f : Pos → Pos) : (s.onPos f).pins = s.pins := rfl
@[simp] theorem State.onPos_outputs (f : Pos → Pos) : (s.onPos f).outputs = s.outputs := rfl
@[simp] theorem State.onPos_rx (f : Pos → Pos) : (s.onPos f).rx = s.rx := rfl
@[simp] theorem State.onPos_line1 (f : Pos → Pos) : (s.onPos f).line1 = s.line1 := rfl
@[simp] theorem State.onPos_line2 (f : Pos → Pos) : (s.onPos f).line2 = s.line2 := rfl
@[simp] theorem State.onPos_peers (f : Pos → Pos) : (s.onPos f).peers = s.peers := rfl
@[simp] theorem State.onPos_own (f : Pos → Pos) : (s.onPos f).own = s.own := rfl
@[simp] theorem State.onPos_peerCtl (f : Pos → Pos) : (s.onPos f).peerCtl = s.peerCtl := rfl
@[simp] theorem State.onPos_sup (f : Pos → Pos) : (s.onPos f).sup = s.sup := rfl
@[simp] theorem State.onPos_car (f : Pos → Pos) : (s.onPos f).car = s.car := rfl
@[simp] theorem State.onPos_pos (f : Pos → Pos) : (s.onPos f).pos = f s.pos := rfl
@[simp] theorem State.onPos_marker (f : Pos → Pos) : (s.onPos f).marker = s.marker := rfl
@[simp] theorem State.onPos_det (f : Pos → Pos) : (s.onPos f).det = s.det := rfl
@[simp] theorem State.onPos_profile (f : Pos → Pos) : (s.onPos f).profile = s.profile := rfl
@[simp] theorem State.onPos_run (f : Pos → Pos) : (s.onPos f).run = s.run := rfl
@[simp] theorem State.onPos_ref (f : Pos → Pos) : (s.onPos f).ref = s.ref := rfl
@[simp] theorem State.onPos_env (f : Pos → Pos) : (s.onPos f).env = s.env := rfl
@[simp] theorem State.onPos_brakes (f : Pos → Pos) : (s.onPos f).brakes = s.brakes := rfl
@[simp] theorem State.onPos_trips (f : Pos → Pos) : (s.onPos f).trips = s.trips := rfl
@[simp] theorem State.onPos_port (f : Pos → Pos) : (s.onPos f).port = s.port := rfl
@[simp] theorem State.onPos_freeUses (f : Pos → Pos) : (s.onPos f).freeUses = s.freeUses := rfl

@[simp] theorem State.onCar_pending (f : Car → Car) : (s.onCar f).pending = s.pending := rfl
@[simp] theorem State.onCar_phase (f : Car → Car) : (s.onCar f).phase = s.phase := rfl
@[simp] theorem State.onCar_clock (f : Car → Car) : (s.onCar f).clock = s.clock := rfl
@[simp] theorem State.onCar_straps (f : Car → Car) : (s.onCar f).straps = s.straps := rfl
@[simp] theorem State.onCar_loader (f : Car → Car) : (s.onCar f).loader = s.loader := rfl
@[simp] theorem State.onCar_pins (f : Car → Car) : (s.onCar f).pins = s.pins := rfl
@[simp] theorem State.onCar_outputs (f : Car → Car) : (s.onCar f).outputs = s.outputs := rfl
@[simp] theorem State.onCar_rx (f : Car → Car) : (s.onCar f).rx = s.rx := rfl
@[simp] theorem State.onCar_line1 (f : Car → Car) : (s.onCar f).line1 = s.line1 := rfl
@[simp] theorem State.onCar_line2 (f : Car → Car) : (s.onCar f).line2 = s.line2 := rfl
@[simp] theorem State.onCar_peers (f : Car → Car) : (s.onCar f).peers = s.peers := rfl
@[simp] theorem State.onCar_own (f : Car → Car) : (s.onCar f).own = s.own := rfl
@[simp] theorem State.onCar_peerCtl (f : Car → Car) : (s.onCar f).peerCtl = s.peerCtl := rfl
@[simp] theorem State.onCar_sup (f : Car → Car) : (s.onCar f).sup = s.sup := rfl
@[simp] theorem State.onCar_car (f : Car → Car) : (s.onCar f).car = f s.car := rfl
@[simp] theorem State.onCar_pos (f : Car → Car) : (s.onCar f).pos = s.pos := rfl
@[simp] theorem State.onCar_marker (f : Car → Car) : (s.onCar f).marker = s.marker := rfl
@[simp] theorem State.onCar_det (f : Car → Car) : (s.onCar f).det = s.det := rfl
@[simp] theorem State.onCar_profile (f : Car → Car) : (s.onCar f).profile = s.profile := rfl
@[simp] theorem State.onCar_run (f : Car → Car) : (s.onCar f).run = s.run := rfl
@[simp] theorem State.onCar_ref (f : Car → Car) : (s.onCar f).ref = s.ref := rfl
@[simp] theorem State.onCar_env (f : Car → Car) : (s.onCar f).env = s.env := rfl
@[simp] theorem State.onCar_brakes (f : Car → Car) : (s.onCar f).brakes = s.brakes := rfl
@[simp] theorem State.onCar_trips (f : Car → Car) : (s.onCar f).trips = s.trips := rfl
@[simp] theorem State.onCar_port (f : Car → Car) : (s.onCar f).port = s.port := rfl
@[simp] theorem State.onCar_freeUses (f : Car → Car) : (s.onCar f).freeUses = s.freeUses := rfl

@[simp] theorem State.onPins_pending (f : PlantPins → PlantPins) : (s.onPins f).pending = s.pending := rfl
@[simp] theorem State.onPins_phase (f : PlantPins → PlantPins) : (s.onPins f).phase = s.phase := rfl
@[simp] theorem State.onPins_clock (f : PlantPins → PlantPins) : (s.onPins f).clock = s.clock := rfl
@[simp] theorem State.onPins_straps (f : PlantPins → PlantPins) : (s.onPins f).straps = s.straps := rfl
@[simp] theorem State.onPins_loader (f : PlantPins → PlantPins) : (s.onPins f).loader = s.loader := rfl
@[simp] theorem State.onPins_pins (f : PlantPins → PlantPins) : (s.onPins f).pins = f s.pins := rfl
@[simp] theorem State.onPins_outputs (f : PlantPins → PlantPins) : (s.onPins f).outputs = s.outputs := rfl
@[simp] theorem State.onPins_rx (f : PlantPins → PlantPins) : (s.onPins f).rx = s.rx := rfl
@[simp] theorem State.onPins_line1 (f : PlantPins → PlantPins) : (s.onPins f).line1 = s.line1 := rfl
@[simp] theorem State.onPins_line2 (f : PlantPins → PlantPins) : (s.onPins f).line2 = s.line2 := rfl
@[simp] theorem State.onPins_peers (f : PlantPins → PlantPins) : (s.onPins f).peers = s.peers := rfl
@[simp] theorem State.onPins_own (f : PlantPins → PlantPins) : (s.onPins f).own = s.own := rfl
@[simp] theorem State.onPins_peerCtl (f : PlantPins → PlantPins) : (s.onPins f).peerCtl = s.peerCtl := rfl
@[simp] theorem State.onPins_sup (f : PlantPins → PlantPins) : (s.onPins f).sup = s.sup := rfl
@[simp] theorem State.onPins_car (f : PlantPins → PlantPins) : (s.onPins f).car = s.car := rfl
@[simp] theorem State.onPins_pos (f : PlantPins → PlantPins) : (s.onPins f).pos = s.pos := rfl
@[simp] theorem State.onPins_marker (f : PlantPins → PlantPins) : (s.onPins f).marker = s.marker := rfl
@[simp] theorem State.onPins_det (f : PlantPins → PlantPins) : (s.onPins f).det = s.det := rfl
@[simp] theorem State.onPins_profile (f : PlantPins → PlantPins) : (s.onPins f).profile = s.profile := rfl
@[simp] theorem State.onPins_run (f : PlantPins → PlantPins) : (s.onPins f).run = s.run := rfl
@[simp] theorem State.onPins_ref (f : PlantPins → PlantPins) : (s.onPins f).ref = s.ref := rfl
@[simp] theorem State.onPins_env (f : PlantPins → PlantPins) : (s.onPins f).env = s.env := rfl
@[simp] theorem State.onPins_brakes (f : PlantPins → PlantPins) : (s.onPins f).brakes = s.brakes := rfl
@[simp] theorem State.onPins_trips (f : PlantPins → PlantPins) : (s.onPins f).trips = s.trips := rfl
@[simp] theorem State.onPins_port (f : PlantPins → PlantPins) : (s.onPins f).port = s.port := rfl
@[simp] theorem State.onPins_freeUses (f : PlantPins → PlantPins) : (s.onPins f).freeUses = s.freeUses := rfl

@[simp] theorem State.onDet_pending (f : Det → Det) : (s.onDet f).pending = s.pending := rfl
@[simp] theorem State.onDet_phase (f : Det → Det) : (s.onDet f).phase = s.phase := rfl
@[simp] theorem State.onDet_clock (f : Det → Det) : (s.onDet f).clock = s.clock := rfl
@[simp] theorem State.onDet_straps (f : Det → Det) : (s.onDet f).straps = s.straps := rfl
@[simp] theorem State.onDet_loader (f : Det → Det) : (s.onDet f).loader = s.loader := rfl
@[simp] theorem State.onDet_pins (f : Det → Det) : (s.onDet f).pins = s.pins := rfl
@[simp] theorem State.onDet_outputs (f : Det → Det) : (s.onDet f).outputs = s.outputs := rfl
@[simp] theorem State.onDet_rx (f : Det → Det) : (s.onDet f).rx = s.rx := rfl
@[simp] theorem State.onDet_line1 (f : Det → Det) : (s.onDet f).line1 = s.line1 := rfl
@[simp] theorem State.onDet_line2 (f : Det → Det) : (s.onDet f).line2 = s.line2 := rfl
@[simp] theorem State.onDet_peers (f : Det → Det) : (s.onDet f).peers = s.peers := rfl
@[simp] theorem State.onDet_own (f : Det → Det) : (s.onDet f).own = s.own := rfl
@[simp] theorem State.onDet_peerCtl (f : Det → Det) : (s.onDet f).peerCtl = s.peerCtl := rfl
@[simp] theorem State.onDet_sup (f : Det → Det) : (s.onDet f).sup = s.sup := rfl
@[simp] theorem State.onDet_car (f : Det → Det) : (s.onDet f).car = s.car := rfl
@[simp] theorem State.onDet_pos (f : Det → Det) : (s.onDet f).pos = s.pos := rfl
@[simp] theorem State.onDet_marker (f : Det → Det) : (s.onDet f).marker = s.marker := rfl
@[simp] theorem State.onDet_det (f : Det → Det) : (s.onDet f).det = f s.det := rfl
@[simp] theorem State.onDet_profile (f : Det → Det) : (s.onDet f).profile = s.profile := rfl
@[simp] theorem State.onDet_run (f : Det → Det) : (s.onDet f).run = s.run := rfl
@[simp] theorem State.onDet_ref (f : Det → Det) : (s.onDet f).ref = s.ref := rfl
@[simp] theorem State.onDet_env (f : Det → Det) : (s.onDet f).env = s.env := rfl
@[simp] theorem State.onDet_brakes (f : Det → Det) : (s.onDet f).brakes = s.brakes := rfl
@[simp] theorem State.onDet_trips (f : Det → Det) : (s.onDet f).trips = s.trips := rfl
@[simp] theorem State.onDet_port (f : Det → Det) : (s.onDet f).port = s.port := rfl
@[simp] theorem State.onDet_freeUses (f : Det → Det) : (s.onDet f).freeUses = s.freeUses := rfl

@[simp] theorem State.onRun_pending (f : RunCtl → RunCtl) : (s.onRun f).pending = s.pending := rfl
@[simp] theorem State.onRun_phase (f : RunCtl → RunCtl) : (s.onRun f).phase = s.phase := rfl
@[simp] theorem State.onRun_clock (f : RunCtl → RunCtl) : (s.onRun f).clock = s.clock := rfl
@[simp] theorem State.onRun_straps (f : RunCtl → RunCtl) : (s.onRun f).straps = s.straps := rfl
@[simp] theorem State.onRun_loader (f : RunCtl → RunCtl) : (s.onRun f).loader = s.loader := rfl
@[simp] theorem State.onRun_pins (f : RunCtl → RunCtl) : (s.onRun f).pins = s.pins := rfl
@[simp] theorem State.onRun_outputs (f : RunCtl → RunCtl) : (s.onRun f).outputs = s.outputs := rfl
@[simp] theorem State.onRun_rx (f : RunCtl → RunCtl) : (s.onRun f).rx = s.rx := rfl
@[simp] theorem State.onRun_line1 (f : RunCtl → RunCtl) : (s.onRun f).line1 = s.line1 := rfl
@[simp] theorem State.onRun_line2 (f : RunCtl → RunCtl) : (s.onRun f).line2 = s.line2 := rfl
@[simp] theorem State.onRun_peers (f : RunCtl → RunCtl) : (s.onRun f).peers = s.peers := rfl
@[simp] theorem State.onRun_own (f : RunCtl → RunCtl) : (s.onRun f).own = s.own := rfl
@[simp] theorem State.onRun_peerCtl (f : RunCtl → RunCtl) : (s.onRun f).peerCtl = s.peerCtl := rfl
@[simp] theorem State.onRun_sup (f : RunCtl → RunCtl) : (s.onRun f).sup = s.sup := rfl
@[simp] theorem State.onRun_car (f : RunCtl → RunCtl) : (s.onRun f).car = s.car := rfl
@[simp] theorem State.onRun_pos (f : RunCtl → RunCtl) : (s.onRun f).pos = s.pos := rfl
@[simp] theorem State.onRun_marker (f : RunCtl → RunCtl) : (s.onRun f).marker = s.marker := rfl
@[simp] theorem State.onRun_det (f : RunCtl → RunCtl) : (s.onRun f).det = s.det := rfl
@[simp] theorem State.onRun_profile (f : RunCtl → RunCtl) : (s.onRun f).profile = s.profile := rfl
@[simp] theorem State.onRun_run (f : RunCtl → RunCtl) : (s.onRun f).run = f s.run := rfl
@[simp] theorem State.onRun_ref (f : RunCtl → RunCtl) : (s.onRun f).ref = s.ref := rfl
@[simp] theorem State.onRun_env (f : RunCtl → RunCtl) : (s.onRun f).env = s.env := rfl
@[simp] theorem State.onRun_brakes (f : RunCtl → RunCtl) : (s.onRun f).brakes = s.brakes := rfl
@[simp] theorem State.onRun_trips (f : RunCtl → RunCtl) : (s.onRun f).trips = s.trips := rfl
@[simp] theorem State.onRun_port (f : RunCtl → RunCtl) : (s.onRun f).port = s.port := rfl
@[simp] theorem State.onRun_freeUses (f : RunCtl → RunCtl) : (s.onRun f).freeUses = s.freeUses := rfl

@[simp] theorem State.onRecord_pending (f : RunRecord → RunRecord) : (s.onRecord f).pending = s.pending := rfl
@[simp] theorem State.onRecord_phase (f : RunRecord → RunRecord) : (s.onRecord f).phase = s.phase := rfl
@[simp] theorem State.onRecord_clock (f : RunRecord → RunRecord) : (s.onRecord f).clock = s.clock := rfl
@[simp] theorem State.onRecord_straps (f : RunRecord → RunRecord) : (s.onRecord f).straps = s.straps := rfl
@[simp] theorem State.onRecord_loader (f : RunRecord → RunRecord) : (s.onRecord f).loader = s.loader := rfl
@[simp] theorem State.onRecord_pins (f : RunRecord → RunRecord) : (s.onRecord f).pins = s.pins := rfl
@[simp] theorem State.onRecord_outputs (f : RunRecord → RunRecord) : (s.onRecord f).outputs = s.outputs := rfl
@[simp] theorem State.onRecord_rx (f : RunRecord → RunRecord) : (s.onRecord f).rx = s.rx := rfl
@[simp] theorem State.onRecord_line1 (f : RunRecord → RunRecord) : (s.onRecord f).line1 = s.line1 := rfl
@[simp] theorem State.onRecord_line2 (f : RunRecord → RunRecord) : (s.onRecord f).line2 = s.line2 := rfl
@[simp] theorem State.onRecord_peers (f : RunRecord → RunRecord) : (s.onRecord f).peers = s.peers := rfl
@[simp] theorem State.onRecord_own (f : RunRecord → RunRecord) : (s.onRecord f).own = s.own := rfl
@[simp] theorem State.onRecord_peerCtl (f : RunRecord → RunRecord) : (s.onRecord f).peerCtl = s.peerCtl := rfl
@[simp] theorem State.onRecord_sup (f : RunRecord → RunRecord) : (s.onRecord f).sup = s.sup := rfl
@[simp] theorem State.onRecord_car (f : RunRecord → RunRecord) : (s.onRecord f).car = s.car := rfl
@[simp] theorem State.onRecord_pos (f : RunRecord → RunRecord) : (s.onRecord f).pos = s.pos := rfl
@[simp] theorem State.onRecord_marker (f : RunRecord → RunRecord) : (s.onRecord f).marker = s.marker := rfl
@[simp] theorem State.onRecord_det (f : RunRecord → RunRecord) : (s.onRecord f).det = s.det := rfl
@[simp] theorem State.onRecord_profile (f : RunRecord → RunRecord) : (s.onRecord f).profile = s.profile := rfl
@[simp] theorem State.onRecord_run (f : RunRecord → RunRecord) : (s.onRecord f).run = { s.run with run := f s.run.run } := rfl
@[simp] theorem State.onRecord_ref (f : RunRecord → RunRecord) : (s.onRecord f).ref = s.ref := rfl
@[simp] theorem State.onRecord_env (f : RunRecord → RunRecord) : (s.onRecord f).env = s.env := rfl
@[simp] theorem State.onRecord_brakes (f : RunRecord → RunRecord) : (s.onRecord f).brakes = s.brakes := rfl
@[simp] theorem State.onRecord_trips (f : RunRecord → RunRecord) : (s.onRecord f).trips = s.trips := rfl
@[simp] theorem State.onRecord_port (f : RunRecord → RunRecord) : (s.onRecord f).port = s.port := rfl
@[simp] theorem State.onRecord_freeUses (f : RunRecord → RunRecord) : (s.onRecord f).freeUses = s.freeUses := rfl

@[simp] theorem State.setRunState_pending (st : RunState) : (s.setRunState st).pending = s.pending := rfl
@[simp] theorem State.setRunState_phase (st : RunState) : (s.setRunState st).phase = s.phase := rfl
@[simp] theorem State.setRunState_clock (st : RunState) : (s.setRunState st).clock = s.clock := rfl
@[simp] theorem State.setRunState_straps (st : RunState) : (s.setRunState st).straps = s.straps := rfl
@[simp] theorem State.setRunState_loader (st : RunState) : (s.setRunState st).loader = s.loader := rfl
@[simp] theorem State.setRunState_pins (st : RunState) : (s.setRunState st).pins = s.pins := rfl
@[simp] theorem State.setRunState_outputs (st : RunState) : (s.setRunState st).outputs = s.outputs := rfl
@[simp] theorem State.setRunState_rx (st : RunState) : (s.setRunState st).rx = s.rx := rfl
@[simp] theorem State.setRunState_line1 (st : RunState) : (s.setRunState st).line1 = s.line1 := rfl
@[simp] theorem State.setRunState_line2 (st : RunState) : (s.setRunState st).line2 = s.line2 := rfl
@[simp] theorem State.setRunState_peers (st : RunState) : (s.setRunState st).peers = s.peers := rfl
@[simp] theorem State.setRunState_own (st : RunState) : (s.setRunState st).own = s.own := rfl
@[simp] theorem State.setRunState_peerCtl (st : RunState) : (s.setRunState st).peerCtl = s.peerCtl := rfl
@[simp] theorem State.setRunState_sup (st : RunState) : (s.setRunState st).sup = s.sup := rfl
@[simp] theorem State.setRunState_car (st : RunState) : (s.setRunState st).car = s.car := rfl
@[simp] theorem State.setRunState_pos (st : RunState) : (s.setRunState st).pos = s.pos := rfl
@[simp] theorem State.setRunState_marker (st : RunState) : (s.setRunState st).marker = s.marker := rfl
@[simp] theorem State.setRunState_det (st : RunState) : (s.setRunState st).det = s.det := rfl
@[simp] theorem State.setRunState_profile (st : RunState) : (s.setRunState st).profile = s.profile := rfl
@[simp] theorem State.setRunState_run (st : RunState) : (s.setRunState st).run = { s.run with state := st } := rfl
@[simp] theorem State.setRunState_ref (st : RunState) : (s.setRunState st).ref = s.ref := rfl
@[simp] theorem State.setRunState_env (st : RunState) : (s.setRunState st).env = s.env := rfl
@[simp] theorem State.setRunState_brakes (st : RunState) : (s.setRunState st).brakes = s.brakes := rfl
@[simp] theorem State.setRunState_trips (st : RunState) : (s.setRunState st).trips = s.trips := rfl
@[simp] theorem State.setRunState_port (st : RunState) : (s.setRunState st).port = s.port := rfl
@[simp] theorem State.setRunState_freeUses (st : RunState) : (s.setRunState st).freeUses = s.freeUses := rfl

@[simp] theorem State.setOwn_pending (o : OwnRecord) : (s.setOwn o).pending = s.pending := rfl
@[simp] theorem State.setOwn_phase (o : OwnRecord) : (s.setOwn o).phase = s.phase := rfl
@[simp] theorem State.setOwn_clock (o : OwnRecord) : (s.setOwn o).clock = s.clock := rfl
@[simp] theorem State.setOwn_straps (o : OwnRecord) : (s.setOwn o).straps = s.straps := rfl
@[simp] theorem State.setOwn_loader (o : OwnRecord) : (s.setOwn o).loader = s.loader := rfl
@[simp] theorem State.setOwn_pins (o : OwnRecord) : (s.setOwn o).pins = s.pins := rfl
@[simp] theorem State.setOwn_outputs (o : OwnRecord) : (s.setOwn o).outputs = s.outputs := rfl
@[simp] theorem State.setOwn_rx (o : OwnRecord) : (s.setOwn o).rx = s.rx := rfl
@[simp] theorem State.setOwn_line1 (o : OwnRecord) : (s.setOwn o).line1 = s.line1 := rfl
@[simp] theorem State.setOwn_line2 (o : OwnRecord) : (s.setOwn o).line2 = s.line2 := rfl
@[simp] theorem State.setOwn_peers (o : OwnRecord) : (s.setOwn o).peers = s.peers := rfl
@[simp] theorem State.setOwn_own (o : OwnRecord) : (s.setOwn o).own = o := rfl
@[simp] theorem State.setOwn_peerCtl (o : OwnRecord) : (s.setOwn o).peerCtl = s.peerCtl := rfl
@[simp] theorem State.setOwn_sup (o : OwnRecord) : (s.setOwn o).sup = s.sup := rfl
@[simp] theorem State.setOwn_car (o : OwnRecord) : (s.setOwn o).car = s.car := rfl
@[simp] theorem State.setOwn_pos (o : OwnRecord) : (s.setOwn o).pos = s.pos := rfl
@[simp] theorem State.setOwn_marker (o : OwnRecord) : (s.setOwn o).marker = s.marker := rfl
@[simp] theorem State.setOwn_det (o : OwnRecord) : (s.setOwn o).det = s.det := rfl
@[simp] theorem State.setOwn_profile (o : OwnRecord) : (s.setOwn o).profile = s.profile := rfl
@[simp] theorem State.setOwn_run (o : OwnRecord) : (s.setOwn o).run = s.run := rfl
@[simp] theorem State.setOwn_ref (o : OwnRecord) : (s.setOwn o).ref = s.ref := rfl
@[simp] theorem State.setOwn_env (o : OwnRecord) : (s.setOwn o).env = s.env := rfl
@[simp] theorem State.setOwn_brakes (o : OwnRecord) : (s.setOwn o).brakes = s.brakes := rfl
@[simp] theorem State.setOwn_trips (o : OwnRecord) : (s.setOwn o).trips = s.trips := rfl
@[simp] theorem State.setOwn_port (o : OwnRecord) : (s.setOwn o).port = s.port := rfl
@[simp] theorem State.setOwn_freeUses (o : OwnRecord) : (s.setOwn o).freeUses = s.freeUses := rfl

@[simp] theorem State.setSup_pending (e : Sup) : (s.setSup e).pending = s.pending := rfl
@[simp] theorem State.setSup_phase (e : Sup) : (s.setSup e).phase = s.phase := rfl
@[simp] theorem State.setSup_clock (e : Sup) : (s.setSup e).clock = s.clock := rfl
@[simp] theorem State.setSup_straps (e : Sup) : (s.setSup e).straps = s.straps := rfl
@[simp] theorem State.setSup_loader (e : Sup) : (s.setSup e).loader = s.loader := rfl
@[simp] theorem State.setSup_pins (e : Sup) : (s.setSup e).pins = s.pins := rfl
@[simp] theorem State.setSup_outputs (e : Sup) : (s.setSup e).outputs = s.outputs := rfl
@[simp] theorem State.setSup_rx (e : Sup) : (s.setSup e).rx = s.rx := rfl
@[simp] theorem State.setSup_line1 (e : Sup) : (s.setSup e).line1 = s.line1 := rfl
@[simp] theorem State.setSup_line2 (e : Sup) : (s.setSup e).line2 = s.line2 := rfl
@[simp] theorem State.setSup_peers (e : Sup) : (s.setSup e).peers = s.peers := rfl
@[simp] theorem State.setSup_own (e : Sup) : (s.setSup e).own = s.own := rfl
@[simp] theorem State.setSup_peerCtl (e : Sup) : (s.setSup e).peerCtl = s.peerCtl := rfl
@[simp] theorem State.setSup_sup (e : Sup) : (s.setSup e).sup = e := rfl
@[simp] theorem State.setSup_car (e : Sup) : (s.setSup e).car = s.car := rfl
@[simp] theorem State.setSup_pos (e : Sup) : (s.setSup e).pos = s.pos := rfl
@[simp] theorem State.setSup_marker (e : Sup) : (s.setSup e).marker = s.marker := rfl
@[simp] theorem State.setSup_det (e : Sup) : (s.setSup e).det = s.det := rfl
@[simp] theorem State.setSup_profile (e : Sup) : (s.setSup e).profile = s.profile := rfl
@[simp] theorem State.setSup_run (e : Sup) : (s.setSup e).run = s.run := rfl
@[simp] theorem State.setSup_ref (e : Sup) : (s.setSup e).ref = s.ref := rfl
@[simp] theorem State.setSup_env (e : Sup) : (s.setSup e).env = s.env := rfl
@[simp] theorem State.setSup_brakes (e : Sup) : (s.setSup e).brakes = s.brakes := rfl
@[simp] theorem State.setSup_trips (e : Sup) : (s.setSup e).trips = s.trips := rfl
@[simp] theorem State.setSup_port (e : Sup) : (s.setSup e).port = s.port := rfl
@[simp] theorem State.setSup_freeUses (e : Sup) : (s.setSup e).freeUses = s.freeUses := rfl

@[simp] theorem State.setPeer_pending (i : Slot) (r : PeerRecord) : (s.setPeer i r).pending = s.pending := rfl
@[simp] theorem State.setPeer_phase (i : Slot) (r : PeerRecord) : (s.setPeer i r).phase = s.phase := rfl
@[simp] theorem State.setPeer_clock (i : Slot) (r : PeerRecord) : (s.setPeer i r).clock = s.clock := rfl
@[simp] theorem State.setPeer_straps (i : Slot) (r : PeerRecord) : (s.setPeer i r).straps = s.straps := rfl
@[simp] theorem State.setPeer_loader (i : Slot) (r : PeerRecord) : (s.setPeer i r).loader = s.loader := rfl
@[simp] theorem State.setPeer_pins (i : Slot) (r : PeerRecord) : (s.setPeer i r).pins = s.pins := rfl
@[simp] theorem State.setPeer_outputs (i : Slot) (r : PeerRecord) : (s.setPeer i r).outputs = s.outputs := rfl
@[simp] theorem State.setPeer_rx (i : Slot) (r : PeerRecord) : (s.setPeer i r).rx = s.rx := rfl
@[simp] theorem State.setPeer_line1 (i : Slot) (r : PeerRecord) : (s.setPeer i r).line1 = s.line1 := rfl
@[simp] theorem State.setPeer_line2 (i : Slot) (r : PeerRecord) : (s.setPeer i r).line2 = s.line2 := rfl
@[simp] theorem State.setPeer_peers (i : Slot) (r : PeerRecord) : (s.setPeer i r).peers = setAt s.peers i r := rfl
@[simp] theorem State.setPeer_own (i : Slot) (r : PeerRecord) : (s.setPeer i r).own = s.own := rfl
@[simp] theorem State.setPeer_peerCtl (i : Slot) (r : PeerRecord) : (s.setPeer i r).peerCtl = s.peerCtl := rfl
@[simp] theorem State.setPeer_sup (i : Slot) (r : PeerRecord) : (s.setPeer i r).sup = s.sup := rfl
@[simp] theorem State.setPeer_car (i : Slot) (r : PeerRecord) : (s.setPeer i r).car = s.car := rfl
@[simp] theorem State.setPeer_pos (i : Slot) (r : PeerRecord) : (s.setPeer i r).pos = s.pos := rfl
@[simp] theorem State.setPeer_marker (i : Slot) (r : PeerRecord) : (s.setPeer i r).marker = s.marker := rfl
@[simp] theorem State.setPeer_det (i : Slot) (r : PeerRecord) : (s.setPeer i r).det = s.det := rfl
@[simp] theorem State.setPeer_profile (i : Slot) (r : PeerRecord) : (s.setPeer i r).profile = s.profile := rfl
@[simp] theorem State.setPeer_run (i : Slot) (r : PeerRecord) : (s.setPeer i r).run = s.run := rfl
@[simp] theorem State.setPeer_ref (i : Slot) (r : PeerRecord) : (s.setPeer i r).ref = s.ref := rfl
@[simp] theorem State.setPeer_env (i : Slot) (r : PeerRecord) : (s.setPeer i r).env = s.env := rfl
@[simp] theorem State.setPeer_brakes (i : Slot) (r : PeerRecord) : (s.setPeer i r).brakes = s.brakes := rfl
@[simp] theorem State.setPeer_trips (i : Slot) (r : PeerRecord) : (s.setPeer i r).trips = s.trips := rfl
@[simp] theorem State.setPeer_port (i : Slot) (r : PeerRecord) : (s.setPeer i r).port = s.port := rfl
@[simp] theorem State.setPeer_freeUses (i : Slot) (r : PeerRecord) : (s.setPeer i r).freeUses = s.freeUses := rfl

@[simp] theorem State.onLine_pending (l : LineId) (f : Line → Line) : (s.onLine l f).pending = s.pending := by cases l <;> rfl
@[simp] theorem State.onLine_phase (l : LineId) (f : Line → Line) : (s.onLine l f).phase = s.phase := by cases l <;> rfl
@[simp] theorem State.onLine_clock (l : LineId) (f : Line → Line) : (s.onLine l f).clock = s.clock := by cases l <;> rfl
@[simp] theorem State.onLine_straps (l : LineId) (f : Line → Line) : (s.onLine l f).straps = s.straps := by cases l <;> rfl
@[simp] theorem State.onLine_loader (l : LineId) (f : Line → Line) : (s.onLine l f).loader = s.loader := by cases l <;> rfl
@[simp] theorem State.onLine_pins (l : LineId) (f : Line → Line) : (s.onLine l f).pins = s.pins := by cases l <;> rfl
@[simp] theorem State.onLine_outputs (l : LineId) (f : Line → Line) : (s.onLine l f).outputs = s.outputs := by cases l <;> rfl
@[simp] theorem State.onLine_rx (l : LineId) (f : Line → Line) : (s.onLine l f).rx = s.rx := by cases l <;> rfl
@[simp] theorem State.onLine_peers (l : LineId) (f : Line → Line) : (s.onLine l f).peers = s.peers := by cases l <;> rfl
@[simp] theorem State.onLine_own (l : LineId) (f : Line → Line) : (s.onLine l f).own = s.own := by cases l <;> rfl
@[simp] theorem State.onLine_peerCtl (l : LineId) (f : Line → Line) : (s.onLine l f).peerCtl = s.peerCtl := by cases l <;> rfl
@[simp] theorem State.onLine_sup (l : LineId) (f : Line → Line) : (s.onLine l f).sup = s.sup := by cases l <;> rfl
@[simp] theorem State.onLine_car (l : LineId) (f : Line → Line) : (s.onLine l f).car = s.car := by cases l <;> rfl
@[simp] theorem State.onLine_pos (l : LineId) (f : Line → Line) : (s.onLine l f).pos = s.pos := by cases l <;> rfl
@[simp] theorem State.onLine_marker (l : LineId) (f : Line → Line) : (s.onLine l f).marker = s.marker := by cases l <;> rfl
@[simp] theorem State.onLine_det (l : LineId) (f : Line → Line) : (s.onLine l f).det = s.det := by cases l <;> rfl
@[simp] theorem State.onLine_profile (l : LineId) (f : Line → Line) : (s.onLine l f).profile = s.profile := by cases l <;> rfl
@[simp] theorem State.onLine_run (l : LineId) (f : Line → Line) : (s.onLine l f).run = s.run := by cases l <;> rfl
@[simp] theorem State.onLine_ref (l : LineId) (f : Line → Line) : (s.onLine l f).ref = s.ref := by cases l <;> rfl
@[simp] theorem State.onLine_env (l : LineId) (f : Line → Line) : (s.onLine l f).env = s.env := by cases l <;> rfl
@[simp] theorem State.onLine_brakes (l : LineId) (f : Line → Line) : (s.onLine l f).brakes = s.brakes := by cases l <;> rfl
@[simp] theorem State.onLine_trips (l : LineId) (f : Line → Line) : (s.onLine l f).trips = s.trips := by cases l <;> rfl
@[simp] theorem State.onLine_port (l : LineId) (f : Line → Line) : (s.onLine l f).port = s.port := by cases l <;> rfl
@[simp] theorem State.onLine_freeUses (l : LineId) (f : Line → Line) : (s.onLine l f).freeUses = s.freeUses := by cases l <;> rfl
@[simp] theorem State.onLine_line (l : LineId) (f : Line → Line) : (s.onLine l f).line l = f (s.line l) := by cases l <;> rfl
@[simp] theorem State.onLine_line_other (l : LineId) (f : Line → Line) :
    (s.onLine l f).line (otherLine l) = s.line (otherLine l) := by cases l <;> rfl
@[simp] theorem State.onLine_other_line (l : LineId) (f : Line → Line) :
    (s.onLine (otherLine l) f).line l = s.line l := by cases l <;> rfl

/-! ### A vector of eight -/

@[simp] theorem setAt_get {α : Type} (v : Vector α 8) (i : Slot) (a : α) : (setAt v i a).get i = a := by
  simp [setAt, Vector.get_eq_getElem]

theorem setAt_get_ne {α : Type} (v : Vector α 8) {i j : Slot} (a : α) (h : i ≠ j) : (setAt v i a).get j = v.get j := by
  have h' : i.val ≠ j.val := fun e => h (Fin.ext e)
  simp [setAt, Vector.get_eq_getElem, h']

theorem setAt_get_eq {α : Type} (v : Vector α 8) (i j : Slot) (a : α) :
    (setAt v i a).get j = if i = j then a else v.get j := by
  split
  · next h => subst h; simp
  · next h => exact setAt_get_ne v a h

end Sys2Proof.Machine
end

