-- ==== Sys2Proof/Laws/Settled.lean ====
section
/-! SUPPORT. Every reaction settles: each shared operation, each transition of the run controller and all that follows an event
leave what `Kept` lists and keep the promises of `Settled`. -/

namespace Sys2Proof.Machine

variable {a b c s : State}

/-! ### The relation -/

theorem Settled.refl (s : State) : Settled s s :=
  ⟨rfl, List.prefix_rfl, id, id, fun h => ⟨h, rfl, rfl⟩, fun _ h => h, fun h _ => h, .inl rfl, .inl rfl,
    fun _ _ _ h => h, fun _ _ _ h => h⟩

theorem Settled.loader (h : Settled a b) : b.loader = a.loader := congrArg Kept.loader h.kept
theorem Settled.clock (h : Settled a b) : b.clock = a.clock := congrArg Kept.clock h.kept
theorem Settled.phase (h : Settled a b) : b.phase = a.phase := congrArg Kept.phase h.kept
theorem Settled.straps (h : Settled a b) : b.straps = a.straps := congrArg Kept.straps h.kept
theorem Settled.pins (h : Settled a b) : b.pins = a.pins := congrArg Kept.pins h.kept
theorem Settled.peers (h : Settled a b) : b.peers = a.peers := congrArg Kept.peers h.kept
theorem Settled.pos (h : Settled a b) : b.pos = a.pos := congrArg Kept.pos h.kept
theorem Settled.det (h : Settled a b) : b.det = a.det := congrArg Kept.det h.kept
theorem Settled.pending (h : Settled a b) : b.pending = a.pending := congrArg Kept.pending h.kept
theorem Settled.origins (h : Settled a b) : b.trips.origins = a.trips.origins := congrArg Kept.origins h.kept
theorem Settled.restrictions (h : Settled a b) : b.profile.restrictions = a.profile.restrictions :=
  congrArg Kept.restrictions h.kept

theorem Settled.params (h : Settled a b) : b.params = a.params := by simp only [State.params, h.loader]
theorem Settled.blocks (h : Settled a b) : b.blocks = a.blocks := by simp only [State.blocks, h.loader]
theorem Settled.configFault (h : Settled a b) : b.configFault = a.configFault := by
  simp only [State.configFault, h.loader]
theorem Settled.listening (h : Settled a b) : b.listening = a.listening := by simp only [State.listening, h.loader]
theorem Settled.ownSlot (h : Settled a b) : b.ownSlot = a.ownSlot := by simp only [State.ownSlot, h.straps]
theorem Settled.role (h : Settled a b) : b.role = a.role := by simp only [State.role, h.straps]
theorem Settled.isDrive (h : Settled a b) : b.isDrive = a.isDrive := by simp only [State.isDrive, State.isRole, h.role]
theorem Settled.isCar (h : Settled a b) : b.isCar = a.isCar := by simp only [State.isCar, State.isRole, h.role]

theorem Settled.driveRecord (h : Settled a b) : b.driveRecord = a.driveRecord := by
  simp only [State.driveRecord, State.presentWith, State.peer, h.peers]

/-- What line standstill reads is kept. -/
theorem Settled.lineStandstill (h : Settled a b) : b.lineStandstill = a.lineStandstill := by
  simp only [State.lineStandstill, h.isDrive, h.isCar, h.driveRecord, h.pos]

theorem Settled.tripAsserted (h : Settled a b) (ht : a.tripAsserted = true) : b.tripAsserted = true := by
  simp only [State.tripAsserted, State.originsEmpty, Bool.or_eq_true] at ht ⊢
  rw [h.origins]
  rcases ht with ht | ht
  · obtain ⟨k, hk⟩ := Option.isSome_iff_exists.mp ht
    exact .inl (by rw [h.latch k hk]; rfl)
  · exact .inr ht

theorem Settled.trans (h : Settled a b) (k : Settled b c) : Settled a c where
  kept := k.kept.trans h.kept
  events := h.events.trans k.events
  overflow := k.overflow ∘ h.overflow
  capacity := k.capacity ∘ h.capacity
  result hb := by
    obtain ⟨h1, h2, h3⟩ := h.result hb
    obtain ⟨k1, k2, k3⟩ := k.result h1
    exact ⟨k1, k2.trans h2, k3.trans h3⟩
  latch x hx := k.latch x (h.latch x hx)
  tripped hs ht := k.tripped (h.tripped hs ht) (h.tripAsserted ht)
  formed := by
    rcases k.formed with e | e
    · rw [e]; exact h.formed
    · rw [e, h.clock]; exact .inr rfl
  statusTimer := by
    rcases k.statusTimer with e | e
    · rw [e]; exact h.statusTimer
    · rw [e, h.params]; exact .inr rfl
  frames l x hx hc := k.frames l x hx (h.frames l x hx hc)
  statusFrame hp hl l hw :=
    k.statusFrame (h.phase.trans hp) (h.listening.trans hl) l (h.statusFrame hp hl l hw)

/-- Queues and own record, but for its estimate, as they were. -/
theorem statusWaits_congr (hq : ∀ l, (b.line l).queue = (a.line l).queue)
    (ho : b.own.status.withoutEstimate = a.own.status.withoutEstimate) (l : LineId) (h : a.statusWaits l) : b.statusWaits l := by
  unfold State.statusWaits at *
  rw [hq l, ho]
  exact h

theorem carries_congr (hq : ∀ l, (b.line l).queue = (a.line l).queue) (l : LineId) (x : Body) (h : a.carries l x) :
    b.carries l x := by
  unfold State.carries at *
  rw [hq l]
  exact h

/-- An update that leaves port, trip latch, own record, STATUS timer and transmit queues, and the run state of a tripped station. -/
theorem Settled.plain (hk : b.kept = a.kept) (hp : b.port = a.port) (ht : b.trips = a.trips)
    (hs : a.run.state = .tripped → a.tripAsserted = true → b.run.state = .tripped)
    (ho : b.own.formedAt = a.own.formedAt) (hc : b.peerCtl.statusTimer = a.peerCtl.statusTimer)
    (hq : ∀ l, (b.line l).queue = (a.line l).queue := by intro l; cases l <;> rfl)
    (hw : b.own.status.withoutEstimate = a.own.status.withoutEstimate := by rfl) : Settled a b :=
  ⟨hk, by rw [hp], by rw [hp]; exact id, by rw [hp]; exact id, by rw [hp]; exact fun h => ⟨h, rfl, rfl⟩,
    by rw [ht]; exact fun _ h => h, hs, .inl ho, .inl hc, fun l x _ h => carries_congr hq l x h,
    fun _ _ l h => statusWaits_congr hq hw l h⟩

/-- An update of the port that only adds events, or completes a tracked command. -/
theorem Settled.port (f : Port → Port)
    (hf : ∀ p : Port, (f p).params = p.params ∧ (f p).code = p.code ∧ p.queue <+: (f p).queue
      ∧ (p.overflow = true → (f p).overflow = true) ∧ (p.queue.length ≤ 16 → (f p).queue.length ≤ 16)
      ∧ (p.busy = false → (f p).busy = false ∧ (f p).result = p.result ∧ (f p).unread = p.unread)) :
    Settled s (s.onPort f) := by
  obtain ⟨h1, h2, h3, h4, h5, h6⟩ := hf s.port
  exact ⟨by simp only [State.kept, State.onPort, h1, h2], h3, h4, h5, h6, fun _ h => h, fun h _ => h, .inl rfl, .inl rfl,
    fun l x _ h => carries_congr (by intro l; cases l <;> rfl) l x h,
    fun _ _ l h => statusWaits_congr (by intro l; cases l <;> rfl) rfl l h⟩

/-! ### Shared operations -/

theorem settled_push (e : EventRecord) : Settled s (s.onPort fun p => p.push e) := by
  refine Settled.port _ fun p => ?_
  unfold Port.push
  split
  · next h => exact ⟨rfl, rfl, List.prefix_append _ _, id, fun _ => by simp; omega, fun h => ⟨h, rfl, rfl⟩⟩
  · exact ⟨rfl, rfl, List.prefix_rfl, fun _ => rfl, id, fun h => ⟨h, rfl, rfl⟩⟩

theorem settled_pushEvent (kind : EventKind) (slot : Slot) (block : Option Nat) (value : Int) :
    Settled s (pushEvent kind slot block value s) := settled_push _

theorem settled_complete_busy (r : Result) (hb : s.port.busy = true) : Settled s (complete r s) :=
  ⟨rfl, List.prefix_rfl, id, id, fun h => absurd h (by simp [hb]), fun _ h => h, fun h _ => h, .inl rfl, .inl rfl,
    fun l x _ h => carries_congr (by intro l; cases l <;> rfl) l x h,
    fun _ _ l h => statusWaits_congr (by intro l; cases l <;> rfl) rfl l h⟩

theorem settled_completeIf (k : CommandName) (r : Result) : Settled s (completeIf k r s) := by
  unfold completeIf State.tracking
  split
  · next h => exact settled_complete_busy r (by simp at h; exact h.1)
  · exact .refl s

theorem settled_completeTracked (r : Result) : Settled s (completeTracked r s) := by
  unfold completeTracked
  split
  · next h => exact settled_complete_busy r h
  · exact .refl s

/-! ### Transmit queues -/

/-- A frame found in a queue stays in it when another frame is offered, unless the queue is then full; a waiting STATUS may give way
to the STATUS offered (R46, R47). -/
theorem offerQueue_keeps (f : TxFrame) (q : List TxFrame) (P : TxFrame → Prop)
    (hf : f.body.isStatus = true → ∀ g ∈ q, P g → g.body.isStatus = true → g.sending = false → P f)
    (h : (∃ g ∈ q, P g) ∨ 8 ≤ q.length) : (∃ g ∈ (offerQueue f q).1, P g) ∨ 8 ≤ (offerQueue f q).1.length := by
  have hins : ∀ q : List TxFrame, (txInsert f q).length = q.length + 1 ∧ ∀ g ∈ q, g ∈ txInsert f q := by
    intro q
    induction q with
    | nil => exact ⟨rfl, by simp⟩
    | cons a rest ih =>
      unfold txInsert
      split
      · exact ⟨by simp, fun g hg => List.mem_cons_of_mem _ hg⟩
      · refine ⟨by simp [ih.1], fun g hg => ?_⟩
        rcases List.mem_cons.mp hg with e | e
        · exact e ▸ List.mem_cons_self
        · exact List.mem_cons_of_mem _ (ih.2 g e)
  have hrep : ∀ q : List TxFrame, (txReplace f q).length = q.length
      ∧ ∀ g ∈ q, g ∈ txReplace f q ∨ (g.body.isStatus = true ∧ g.sending = false ∧ f ∈ txReplace f q) := by
    intro q
    induction q with
    | nil => exact ⟨rfl, by simp⟩
    | cons a rest ih =>
      unfold txReplace
      split
      · next hc =>
        refine ⟨by simp, fun g hg => ?_⟩
        rcases List.mem_cons.mp hg with e | e
        · subst e; simp at hc; exact .inr ⟨hc.1, hc.2, List.mem_cons_self⟩
        · exact .inl (List.mem_cons_of_mem _ e)
      · refine ⟨by simp [ih.1], fun g hg => ?_⟩
        rcases List.mem_cons.mp hg with e | e
        · exact .inl (e ▸ List.mem_cons_self)
        · rcases ih.2 g e with k | ⟨k1, k2, k3⟩
          · exact .inl (List.mem_cons_of_mem _ k)
          · exact .inr ⟨k1, k2, List.mem_cons_of_mem _ k3⟩
  unfold offerQueue
  split
  · next hc =>
    have hs : f.body.isStatus = true := by simp at hc; exact hc.1
    rcases h with ⟨g, hg, hP⟩ | h
    · rcases (hrep q).2 g hg with k | ⟨k1, k2, k3⟩
      · exact .inl ⟨g, k, hP⟩
      · exact .inl ⟨f, k3, hf hs g hg hP k1 k2⟩
    · exact .inr (by rw [(hrep q).1]; exact h)
  · split
    · next hlt =>
      rcases h with ⟨g, hg, hP⟩ | h
      · exact .inl ⟨g, (hins q).2 g hg, hP⟩
      · omega
    · next hlt =>
      split
      · next g hl =>
        split
        · refine .inr ?_
          have hmem : g ∈ q.reverse := List.mem_of_find?_eq_some hl
          have hp : (fun g : TxFrame => !g.sending) g = true := List.find?_some (p := fun g : TxFrame => !g.sending) hl
          have : (dropLastWaiting q).length = q.length - 1 := by
            simp only [dropLastWaiting, List.length_reverse]
            rw [List.length_eraseP_of_mem hmem hp, List.length_reverse]
          rw [(hins _).1, this]
          omega
        · exact .inr (by dsimp only; omega)
      · exact .inr (by dsimp only; omega)

/-- A frame offered stands in the queue, unless the queue is full (R46, R47). -/
theorem offerQueue_joins (f : TxFrame) (q : List TxFrame) :
    f ∈ (offerQueue f q).1 ∨ 8 ≤ (offerQueue f q).1.length := by
  have hins : ∀ q : List TxFrame, f ∈ txInsert f q ∧ (txInsert f q).length = q.length + 1 := by
    intro q
    induction q with
    | nil => exact ⟨List.mem_cons_self, rfl⟩
    | cons a rest ih =>
      unfold txInsert
      split
      · exact ⟨List.mem_cons_self, by simp⟩
      · exact ⟨List.mem_cons_of_mem _ ih.1, by simp [ih.2]⟩
  have hrep : ∀ q : List TxFrame, waitingStatus q = true → f ∈ txReplace f q := by
    intro q
    induction q with
    | nil => intro h; cases h
    | cons a rest ih =>
      intro h
      unfold txReplace
      split
      · exact List.mem_cons_self
      · next hc => exact List.mem_cons_of_mem _ (ih (by simpa [waitingStatus, hc] using h))
  unfold offerQueue
  split
  · next hc => exact .inl (hrep q (by simp at hc; exact hc.2))
  · split
    · exact .inl (hins q).1
    · next hlt =>
      split
      · next g hl =>
        split
        · exact .inl (hins _).1
        · exact .inr (by dsimp only; omega)
      · exact .inr (by dsimp only; omega)

/-- What an offer leaves in the two queues. -/
theorem offerLine_queue (l k : LineId) (f : TxFrame) :
    ((offerLine l f s).line k).queue = if k = l then (offerQueue f (s.line l).queue).1 else (s.line k).queue := by
  unfold offerLine
  dsimp only
  split <;> cases l <;> cases k <;> rfl

theorem offerLine_own (l : LineId) (f : TxFrame) : (offerLine l f s).own = s.own := by
  unfold offerLine
  dsimp only
  split <;> cases l <;> rfl

/-- An update of one line's queue that keeps what `Settled` says of the queues. -/
theorem settled_onLine_queue (l : LineId) (q : List TxFrame)
    (hq : ∀ P : TxFrame → Prop, (∀ f : TxFrame, f.sending = false → ∀ st, f.body = .status st → st = s.own.status → P f) →
      (∃ g ∈ (s.line l).queue, P g) ∨ 8 ≤ (s.line l).queue.length → (∃ g ∈ q, P g) ∨ 8 ≤ q.length)
    (hx : ∀ x : Body, x.isStatus = false →
      (∃ g ∈ (s.line l).queue, g.body = x) ∨ 8 ≤ (s.line l).queue.length → (∃ g ∈ q, g.body = x) ∨ 8 ≤ q.length) :
    Settled s (s.onLine l fun x => { x with queue := q }) := by
  have hline : ∀ k, ((s.onLine l fun x => { x with queue := q }).line k).queue = if k = l then q else (s.line k).queue := by
    intro k
    cases k <;> cases l <;> rfl
  refine ⟨by cases l <;> rfl, by rw [State.onLine_port], by rw [State.onLine_port]; exact id, by rw [State.onLine_port]; exact id,
    by rw [State.onLine_port]; exact fun h => ⟨h, rfl, rfl⟩, by rw [State.onLine_trips]; exact fun _ h => h,
    by rw [State.onLine_run]; exact fun h _ => h, .inl (by cases l <;> rfl), .inl (by cases l <;> rfl), ?_, ?_⟩
  · intro k x hb h
    unfold State.carries at *
    rw [hline k]
    split
    · next e => subst e; exact hx x hb h
    · exact h
  · intro _ _ k h
    have ho : (s.onLine l fun x => { x with queue := q }).own = s.own := by cases l <;> rfl
    unfold State.statusWaits at *
    rw [hline k, ho]
    split
    · next e =>
      subst e
      exact hq _ (fun f hf st hb hst => ⟨hf, st, hb, by rw [hst]⟩) h
    · exact h

theorem settled_offerLine (l : LineId) (f : TxFrame) (hf : ∀ st, f.body = .status st → f.sending = false ∧ st = s.own.status) :
    Settled s (offerLine l f s) := by
  unfold offerLine
  have h : Settled s (s.onLine l fun x => { x with queue := (offerQueue f (s.line l).queue).1 }) := by
    refine settled_onLine_queue l _ (fun P hP h => offerQueue_keeps f _ P ?_ h) (fun x hx h => offerQueue_keeps f _ _ ?_ h)
    · intro hs _ _ _ _ _
      cases hb : f.body with
      | status st => exact hP f (hf st hb).1 st hb (hf st hb).2
      | _ => simp [hb, Body.isStatus] at hs
    · intro _ g _ hg hgs _
      rw [hg, hx] at hgs
      cases hgs
  dsimp only
  split
  · exact h.trans (settled_pushEvent _ _ _ _)
  · exact h

theorem settled_originate (f : Body) (hf : ∀ st, f = .status st → st = s.own.status) : Settled s (originate f s) := by
  unfold originate
  split
  · exact .refl s
  · dsimp only
    refine ((settled_offerLine .line1 ⟨s.rx.nextFrameId, f, none, false⟩ fun st hb => ⟨rfl, hf st hb⟩).trans
      (settled_offerLine .line2 ⟨s.rx.nextFrameId, f, none, false⟩ fun st hb => ⟨rfl, ?_⟩)).trans
      (Settled.plain rfl rfl rfl (fun h _ => h) rfl rfl)
    rw [offerLine_own]
    exact hf st hb

theorem settled_originateRun (f : RunId → Body) (hf : ∀ id st, f id ≠ .status st) : Settled s (originateRun f s) := by
  unfold originateRun
  split
  · exact settled_originate _ fun st h => absurd h (hf _ st)
  · exact .refl s

/-- A frame originated waits in both queues, where they have room (R45 to R47). -/
theorem originate_waits (b : Body) (hp : s.phase = .running) (hl : s.listening = false) (l : LineId) :
    (∃ g ∈ ((originate b s).line l).queue, g.sending = false ∧ g.body = b) ∨ 8 ≤ ((originate b s).line l).queue.length := by
  have h : ∀ q : List TxFrame, (∃ g ∈ (offerQueue ⟨s.rx.nextFrameId, b, none, false⟩ q).1, g.sending = false ∧ g.body = b)
      ∨ 8 ≤ (offerQueue ⟨s.rx.nextFrameId, b, none, false⟩ q).1.length := fun q =>
    (offerQueue_joins ⟨s.rx.nextFrameId, b, none, false⟩ q).imp (fun k => ⟨_, k, rfl, rfl⟩) id
  unfold originate
  rw [if_neg (by simp [hp, hl])]
  dsimp only
  have e : ∀ t : State, ((t.onRx fun r => { r with nextFrameId := r.nextFrameId + 1 }).line l).queue = (t.line l).queue := by
    intro t
    cases l <;> rfl
  rw [e, offerLine_queue]
  cases l
  · rw [if_neg (by decide), offerLine_queue, if_pos rfl]; exact h _
  · rw [if_pos rfl, offerLine_queue, if_neg (by decide)]; exact h _

/-- A frame of another kind originated is carried on both lines. -/
theorem originate_carries (b : Body) (hp : s.phase = .running) (hl : s.listening = false) (l : LineId) :
    (originate b s).carries l b :=
  (originate_waits b hp hl l).imp (fun ⟨g, hg, _, hb⟩ => ⟨g, hg, hb⟩) id

theorem originate_own (b : Body) : (originate b s).own = s.own := by
  unfold originate
  split
  · rfl
  · dsimp only
    show (offerLine .line2 _ (offerLine .line1 _ s)).own = s.own
    rw [offerLine_own, offerLine_own]

theorem settled_sendStatus : Settled s (sendStatus s) := by
  unfold sendStatus
  dsimp only
  split
  · next hl =>
    have hl' : s.listening = true := hl
    exact ⟨rfl, List.prefix_rfl, id, id, fun h => ⟨h, rfl, rfl⟩, fun _ h => h, fun h _ => h, .inr rfl, .inl rfl,
      fun l x _ h => carries_congr (by intro l; cases l <;> rfl) l x h, fun _ h => by rw [hl'] at h; cases h⟩
  · next hl =>
    have h : Settled ((s.setOwn ⟨s.formStatus, s.clock⟩).onPeerCtl fun c =>
        { c with statusTimer := startTimer (s.setOwn ⟨s.formStatus, s.clock⟩).params.tStatus }) _ :=
      settled_originate (.status s.formStatus) fun st e => (by cases e; rfl)
    refine ⟨h.kept, h.events, h.overflow, h.capacity, h.result, h.latch, h.tripped, .inr (h.formed.elim id id), .inr ?_,
      fun l x hx hc => h.frames l x hx (carries_congr (by intro l; cases l <;> rfl) l x hc), fun hp hn l _ => ?_⟩
    · exact h.statusTimer.elim id id
    · rcases originate_waits (s := (s.setOwn ⟨s.formStatus, s.clock⟩).onPeerCtl fun c =>
          { c with statusTimer := startTimer (s.setOwn ⟨s.formStatus, s.clock⟩).params.tStatus })
          (.status s.formStatus) hp hn l with ⟨g, hg, h1, h2⟩ | k
      · refine .inl ⟨g, hg, h1, s.formStatus, h2, ?_⟩
        rw [originate_own]
        rfl
      · exact .inr k

theorem settled_applyTimes (f : State → State) (hf : ∀ s, Settled s (f s)) (n : Nat) : ∀ s, Settled s (applyTimes f n s) := by
  induction n with
  | zero => exact fun s => .refl s
  | succ n ih => exact fun s => (hf s).trans (ih (f s))

theorem settled_announce : Settled s (announce s) := settled_applyTimes _ (fun _ => settled_sendStatus) _ s

theorem settled_onProfile (f : Profile → Profile) (hf : ∀ p, (f p).restrictions = p.restrictions) :
    Settled s (s.onProfile f) :=
  Settled.plain (by simp only [State.kept, State.onProfile, hf]) rfl rfl (fun h _ => h) rfl rfl

theorem settled_onMarker (f : Marker → Marker) (hf : ∀ m, (f m).lastMatched = m.lastMatched ∧ (f m).drift = m.drift) :
    Settled s (s.onMarker f) :=
  Settled.plain (by simp only [State.kept, State.onMarker, (hf _).1, (hf _).2]) rfl rfl (fun h _ => h) rfl rfl

theorem settled_onRecord (f : RunRecord → RunRecord) : Settled s (s.onRecord f) :=
  Settled.plain rfl rfl rfl (fun h _ => h) rfl rfl

theorem settled_onRun (f : RunCtl → RunCtl) (hc : (f s.run).counter = s.run.counter)
    (hs : s.run.state ≠ .tripped ∨ (f s.run).state = .tripped ∨ s.tripAsserted = false) : Settled s (s.onRun f) := by
  refine Settled.plain (by simp only [State.kept, State.onRun, hc]) rfl rfl ?_ rfl rfl
  intro h1 h2
  rcases hs with h | h | h
  · exact absurd h1 h
  · exact h
  · rw [h] at h2; cases h2

theorem settled_setRunState (st : RunState) (hs : s.run.state ≠ .tripped) : Settled s (s.setRunState st) :=
  settled_onRun (fun r => { r with state := st }) rfl (.inl hs)

theorem settled_onRef (f : SpeedRef → SpeedRef) : Settled s (s.onRef f) :=
  Settled.plain rfl rfl rfl (fun h _ => h) rfl rfl

theorem settled_onEnv (f : Env → Env) : Settled s (s.onEnv f) := Settled.plain rfl rfl rfl (fun h _ => h) rfl rfl

theorem settled_onOutputs (f : Outputs → Outputs) : Settled s (s.onOutputs f) :=
  Settled.plain rfl rfl rfl (fun h _ => h) rfl rfl

theorem settled_refreshDoor : Settled s (refreshDoor s) := by
  unfold refreshDoor
  split
  · exact settled_onOutputs _
  · exact .refl s

theorem settled_setSup (e : Sup) : Settled s (s.setSup e) := Settled.plain rfl rfl rfl (fun h _ => h) rfl rfl

theorem settled_clearReady : Settled s (s.onCar fun c => { c with ready := false }) :=
  Settled.plain rfl rfl rfl (fun h _ => h) rfl rfl

theorem settled_disarm : Settled s (s.onMarker Marker.disarm) := settled_onMarker _ fun _ => ⟨rfl, rfl⟩

theorem settled_emptyTraversal : Settled s (s.onProfile fun p => { p with traversal := none }) :=
  settled_onProfile _ fun _ => rfl

theorem settled_unproveBlock (k : Nat) (cause : UnproveCause) (slot : Slot) : Settled s (unproveBlock k cause slot s) := by
  unfold unproveBlock
  dsimp only
  split
  · refine Settled.trans ?_ (settled_pushEvent _ _ _ _)
    exact settled_onProfile _ fun _ => rfl
  · exact settled_onProfile _ fun _ => rfl

theorem settled_unproveEvery (cause : Int) (slot : Slot) : Settled s (unproveEvery cause slot s) := by
  unfold unproveEvery
  refine Settled.trans ?_ (settled_pushEvent _ _ _ _)
  exact settled_onProfile _ fun _ => rfl

theorem settled_clearRun (keep : Option RunHdr) (st : RunState)
    (hs : s.run.state ≠ .tripped ∨ st = .tripped) : Settled s (clearRun keep st s) := by
  unfold clearRun
  refine Settled.trans ?_ (settled_onRef _)
  refine Settled.trans ?_ settled_emptyTraversal
  refine Settled.trans ?_ settled_disarm
  refine Settled.trans ?_ settled_clearReady
  refine settled_onRun _ rfl ?_
  rcases hs with h | h
  · exact .inl h
  · exact .inr (.inl h)

theorem announce_run : (announce s).run = s.run := by
  have hl : ∀ l g (s : State), (offerLine l g s).run = s.run := by
    intro l g s
    unfold offerLine
    dsimp only
    split <;> simp [pushEvent]
  have ho : ∀ (b : Body) (s : State), (originate b s).run = s.run := by
    intro b s
    unfold originate
    split
    · rfl
    · simp [hl]
  have hs : ∀ s : State, (sendStatus s).run = s.run := by
    intro s
    unfold sendStatus
    dsimp only
    split
    · rfl
    · rw [ho]; rfl
  have : ∀ (n : Nat) (s : State), (applyTimes sendStatus n s).run = s.run := by
    intro n
    induction n with
    | zero => exact fun _ => rfl
    | succ n ih => exact fun s => (ih _).trans (hs s)
  exact this _ s

theorem settled_enterTripped : Settled s (enterTripped s) := by
  unfold enterTripped
  split
  · exact .refl s
  · refine Settled.trans ?_ settled_announce
    refine Settled.trans ?_ settled_refreshDoor
    exact (settled_completeTracked _).trans (settled_clearRun _ _ (.inr rfl))

theorem refreshDoor_run : (refreshDoor s).run = s.run := by
  unfold refreshDoor
  split <;> rfl

theorem enterTripped_state : (enterTripped s).run.state = .tripped := by
  unfold enterTripped
  split
  · next h => simpa [State.inState] using h
  · rw [announce_run, refreshDoor_run]; rfl

theorem settled_setLatch (k : TripCause) (h : s.trips.latch = none) :
    Settled s (s.onTrips fun t => { t with latch := some k }) :=
  ⟨rfl, List.prefix_rfl, id, id, fun h => ⟨h, rfl, rfl⟩, fun x hx => (by rw [h] at hx; cases hx), fun h _ => h, .inl rfl,
    .inl rfl, fun l x _ h => carries_congr (by intro l; cases l <;> rfl) l x h,
    fun _ _ l h => statusWaits_congr (by intro l; cases l <;> rfl) rfl l h⟩

theorem settled_keepRequest (k : TripCause) : Settled s (keepRequest k s) :=
  ⟨rfl, List.prefix_rfl, id, id, fun h => ⟨h, rfl, rfl⟩, fun _ h => h, fun h _ => h, .inl rfl, .inl rfl,
    fun l x _ h => carries_congr (by intro l; cases l <;> rfl) l x h,
    fun _ _ l h => statusWaits_congr (by intro l; cases l <;> rfl) rfl l h⟩

theorem settled_latchTrip (k : TripCause) : Settled s (latchTrip k s) := by
  unfold latchTrip
  split
  · exact settled_keepRequest k
  · next h =>
    have hn : s.trips.latch = none := by simpa using h
    have h0 := settled_setLatch k hn
    dsimp only
    refine ((Settled.trans ?_ settled_announce).trans (settled_pushEvent _ _ _ _)).trans settled_enterTripped
    refine Settled.trans ?_ (settled_originate _ (by simp))
    split
    · exact h0.trans (settled_unproveEvery _ _)
    · exact h0

end Sys2Proof.Machine
end

