-- ==== Sys2Proof/Laws/Reactions.lean ====
section
/-! SUPPORT. The reactions that follow an event settle, up to `finishWith` itself. -/

namespace Sys2Proof.Machine

variable {s : State}

/-! ### Envelope -/

theorem settled_evaluate : Settled s (evaluate s) := by
  unfold evaluate
  split
  · exact .refl s
  · split
    · exact ((settled_onEnv _).trans (settled_latchTrip _)).trans (settled_onEnv _)
    · exact settled_onEnv _

/-- All that `stopReference` can do: at a DRIVE whose reference is barred v_ref becomes 0, and nothing else changes. -/
theorem stopReference_cases :
    (s.isDrive = true ∧ s.referenceBarred = true ∧ stopReference s = s.onRef fun r => { r with vref := 0 })
    ∨ ((s.isDrive = false ∨ s.referenceBarred = false) ∧ stopReference s = s) := by
  unfold stopReference
  split
  · next h => simp at h; exact .inl ⟨h.1, h.2, rfl⟩
  · next h => simp at h; exact .inr ⟨by cases hd : s.isDrive <;> simp_all, rfl⟩

theorem stopReference_vref (drive : s.isDrive = true) (barred : s.referenceBarred = true) : (stopReference s).ref.vref = 0 := by
  rcases stopReference_cases (s := s) with ⟨-, -, h⟩ | ⟨h, -⟩
  · rw [h]; rfl
  · simp [drive, barred] at h

theorem settled_stopReference : Settled s (stopReference s) := by
  rcases stopReference_cases (s := s) with ⟨-, -, h⟩ | ⟨-, h⟩ <;> rw [h]
  · exact settled_onRef _
  · exact .refl s

theorem settled_onBrakes (f : Brakes → Brakes)
    (hf : (f s.brakes).stage1.failed = s.brakes.stage1.failed ∧ (f s.brakes).stage2.failed = s.brakes.stage2.failed
      ∧ (f s.brakes).stage4.failed = s.brakes.stage4.failed ∧ (f s.brakes).stage8.failed = s.brakes.stage8.failed) :
    Settled s (s.onBrakes f) :=
  Settled.plain (by simp only [State.kept, State.onBrakes, hf.1, hf.2.1, hf.2.2.1, hf.2.2.2]) rfl rfl (fun h _ => h) rfl rfl

theorem settled_formParking : Settled s (formParking s) := by
  unfold formParking
  split
  · dsimp only
    split
    · exact (settled_onBrakes _ ⟨rfl, rfl, rfl, rfl⟩).trans (settled_pushEvent _ _ _ _)
    · split
      · exact (settled_onBrakes _ ⟨rfl, rfl, rfl, rfl⟩).trans (settled_pushEvent _ _ _ _)
      · exact settled_onBrakes _ ⟨rfl, rfl, rfl, rfl⟩
  · exact settled_onBrakes _ ⟨rfl, rfl, rfl, rfl⟩

/-- All that `formParking` does to the brakes (R165, R166): while parking applies the required level stands, with PARK_DEGRADED where no
achievable level reaches it; otherwise no level stands and the flag keeps its value. -/
theorem formParking_brakes : (formParking s).brakes = { s.brakes with
    parkRequested := if s.parkingApplies then some s.parkingRequired else none
    parkDegraded := if s.parkingApplies then !s.brakes.reaches s.parkingRequired else s.brakes.parkDegraded } := by
  unfold formParking
  split
  · dsimp only
    split
    · rfl
    · split <;> rfl
  · rfl

/-- Beside the brakes `formParking` changes the port alone, by PARK_DEGRADED at a change of the flag. -/
theorem formParking_rest : formParking s = { s with brakes := (formParking s).brakes, port := (formParking s).port } := by
  unfold formParking
  split
  · dsimp only
    split
    · rfl
    · split <;> rfl
  · rfl

theorem settled_followDemand : Settled s (followDemand s) :=
  (settled_stopReference.trans settled_formParking).trans settled_announce

theorem settled_reevaluate : Settled s (reevaluate s) := settled_evaluate.trans settled_followDemand

theorem settled_reevaluateIfChanged (before : State) : Settled s (reevaluateIfChanged before s) := by
  unfold reevaluateIfChanged
  split
  · exact .refl s
  · exact settled_reevaluate

@[simp] theorem sameInputs_self (s : State) : sameInputs s s = true := by simp [sameInputs]

/-- A part that changes nothing R127 lists is followed by no evaluation. -/
theorem reevaluateIfChanged_of_same {before : State} (h : sameInputs before s = true) : reevaluateIfChanged before s = s :=
  if_pos h

@[simp] theorem reevaluateIfChanged_self (s : State) : reevaluateIfChanged s s = s := reevaluateIfChanged_of_same (sameInputs_self s)

theorem settled_runStateEntered : Settled s (runStateEntered s) :=
  (settled_announce.trans settled_refreshDoor).trans settled_reevaluate

/-! ### Traversal and estimate -/

theorem settled_openTraversal (k : Nat) (entry : Int) : Settled s (openTraversal k entry s) :=
  settled_onProfile _ fun _ => rfl

theorem settled_checkTraversal : Settled s (checkTraversal s) := settled_onProfile _ fun _ => rfl

theorem settled_completeTraversal (t : Traversal) : Settled s (completeTraversal t s) := by
  unfold completeTraversal emptyTraversal
  dsimp only
  split
  · split
    · refine Settled.trans settled_emptyTraversal ?_
      exact settled_onProfile _ fun _ => rfl
    · refine Settled.trans ?_ (settled_pushEvent _ _ _ _)
      refine Settled.trans settled_emptyTraversal ?_
      exact settled_onProfile _ fun _ => rfl
  · exact settled_emptyTraversal

theorem settled_settleTraversal (dir : Dir) (x : Int) : Settled s (settleTraversal dir x s) := by
  unfold settleTraversal
  split
  · exact .refl s
  · split
    · exact settled_completeTraversal _
    · split
      · exact settled_emptyTraversal
      · exact .refl s

theorem settled_followTraversal (old : Option Int) : Settled s (followTraversal old s) := by
  unfold followTraversal
  split
  · split
    · dsimp only
      split
      · exact (settled_checkTraversal.trans (settled_settleTraversal _ _)).trans (settled_openTraversal _ _)
      · exact settled_checkTraversal.trans (settled_settleTraversal _ _)
    · exact settled_emptyTraversal
  · exact settled_emptyTraversal

theorem settled_openAtEntry : Settled s (openAtEntry s) := by
  unfold openAtEntry
  split
  · dsimp only
    split
    · exact settled_openTraversal _ _
    · exact .refl s
  · exact .refl s

theorem settled_spreadTests : Settled s (spreadTests s) := by
  unfold spreadTests
  dsimp only
  split <;> split
  · exact (settled_unproveBlock _ _ _).trans (settled_latchTrip _)
  · exact settled_unproveBlock _ _ _
  · exact settled_latchTrip _
  · exact .refl s

theorem settled_refreshBerth : Settled s (refreshBerth s) := by
  unfold refreshBerth
  split
  · exact .refl s
  · split
    · exact settled_onRecord _
    · dsimp only
      split
      · exact (settled_onRecord _).trans (settled_pushEvent _ _ _ _)
      · exact settled_onRecord _

theorem settled_freezeBerth : Settled s (freezeBerth s) := by
  unfold freezeBerth
  split
  · split
    · exact settled_onRecord _
    · exact .refl s
  · exact .refl s

theorem settled_updateBerth : Settled s (updateBerth s) := by
  unfold updateBerth
  split
  · exact settled_refreshBerth.trans settled_freezeBerth
  · exact .refl s

theorem settled_handSup : Settled s (handSup s) :=
  (((settled_setSup _).trans (settled_followTraversal _)).trans settled_spreadTests :)

theorem settled_recompute : Settled s (recompute s) :=
  ((settled_handSup.trans settled_reevaluate).trans settled_updateBerth).trans (settled_reevaluateIfChanged _)

theorem settled_closeRun (cause : CloseCause) (slot : Slot) (hs : s.run.state ≠ .tripped) :
    Settled s (closeRun cause slot s) := by
  unfold closeRun
  dsimp only
  refine Settled.trans ?_ settled_announce
  refine Settled.trans ?_ settled_refreshDoor
  refine Settled.trans ?_ (settled_clearRun _ _ (.inl ?_))
  · exact (settled_pushEvent _ _ _ _).trans (settled_completeTracked _)
  · unfold completeTracked
    split <;> exact hs

theorem settled_endRun (cause : CloseCause) (slot : Slot) (hs : s.run.state ≠ .tripped) :
    Settled s (endRun cause slot s) := ((settled_closeRun _ _ hs).trans settled_reevaluate).trans settled_recompute

/-! ### Run transitions -/

theorem originate_run (f : Body) : (originate f s).run = s.run := by
  have hl : ∀ l g (s : State), (offerLine l g s).run = s.run := by
    intro l g s
    unfold offerLine
    dsimp only
    split <;> simp [pushEvent]
  unfold originate
  split
  · rfl
  · simp [hl]

theorem originateRun_run (f : RunId → Body) : (originateRun f s).run = s.run := by
  unfold originateRun
  split
  · exact originate_run _
  · rfl

theorem settled_closeByDrive (cause : CloseCause) (hs : s.run.state ≠ .tripped) : Settled s (closeByDrive cause s) := by
  unfold closeByDrive
  refine (settled_originateRun _ (by simp)).trans (settled_endRun _ _ ?_)
  rw [originateRun_run]
  exact hs

theorem settled_doorTest : Settled s (doorTest s) := by
  unfold doorTest
  split
  · exact settled_latchTrip _
  · exact .refl s

theorem settled_armMarker : Settled s (armMarker s) := by
  unfold armMarker
  split
  · exact settled_onMarker _ fun _ => ⟨rfl, rfl⟩
  · exact .refl s

theorem settled_firstEntry : Settled s (firstEntry s) :=
  (settled_armMarker.trans settled_openAtEntry).trans settled_doorTest

theorem settled_beginTargets : Settled s (beginTargets s) := by
  unfold beginTargets
  dsimp only
  split
  · exact (settled_onRecord _).trans settled_refreshBerth
  · exact settled_onRecord _

theorem beginTargets_state : (beginTargets s).run.state = s.run.state := by
  have h : ∀ s, (refreshBerth s).run.state = s.run.state := by
    intro s
    unfold refreshBerth
    split
    · rfl
    · split
      · rfl
      · dsimp only
        split <;> rfl
  unfold beginTargets
  dsimp only
  split
  · rw [h]; rfl
  · rfl

theorem settled_continueTargets : Settled s (continueTargets s) := by
  unfold continueTargets
  split
  · exact settled_refreshBerth
  · exact .refl s

theorem settled_startMoving (hs : s.run.state ≠ .tripped) : Settled s (startMoving s) := settled_onRun _ rfl (.inl hs)

theorem settled_enterStopping (hs : s.run.state ≠ .tripped) : Settled s (enterStopping s) := by
  unfold enterStopping
  dsimp only
  refine Settled.trans ?_ settled_runStateEntered
  refine Settled.trans ?_ settled_doorTest
  refine Settled.trans ?_ settled_announce
  refine Settled.trans ?_ (settled_setRunState _ ?_)
  · refine Settled.trans ?_ (settled_onRecord _)
    split
    · exact Settled.plain rfl rfl rfl (fun h _ => h) rfl rfl
    · exact .refl s
  · split <;> exact hs

theorem settled_stopIfHeld : Settled s (stopIfHeld s) := by
  unfold stopIfHeld
  split
  · next h =>
    refine settled_enterStopping ?_
    intro e
    simp [State.inState, e] at h
  · exact .refl s

/-- Every entry to MOVING ends with what an entered state brings and, where the station holds the line, with STOPPING. -/
theorem settled_entered {a : State} (h : Settled s a) : Settled s (stopIfHeld (runStateEntered a)) :=
  (h.trans settled_runStateEntered).trans settled_stopIfHeld

theorem settled_enterLegZero (target : Int) (hs : s.run.state ≠ .tripped) : Settled s (enterLegZero target s) := by
  unfold enterLegZero
  dsimp only
  apply settled_entered
  refine Settled.trans ?_ settled_firstEntry
  refine Settled.trans ?_ (settled_completeIf _ _)
  refine Settled.trans ?_ (settled_pushEvent _ _ _ _)
  refine Settled.trans ?_ settled_beginTargets
  refine Settled.trans ?_ (settled_startMoving (by exact hs))
  exact settled_onRecord _

theorem settled_commit (hs : s.run.state ≠ .tripped) : Settled s (commit s) := by
  unfold commit
  exact (settled_originateRun _ (by simp)).trans (settled_enterLegZero _ (by rw [originateRun_run]; exact hs))

theorem settled_enterNextLeg (hs : s.run.state ≠ .tripped) : Settled s (enterNextLeg s) := by
  have h : Settled s (pushCommitted (beginTargets (startMoving (s.onRecord fun r => { r with joinedInDwell := false })))) := by
    unfold pushCommitted
    refine Settled.trans ?_ (settled_pushEvent _ _ _ _)
    refine Settled.trans ?_ settled_beginTargets
    refine Settled.trans ?_ (settled_startMoving (by exact hs))
    exact settled_onRecord _
  unfold enterNextLeg
  dsimp only
  apply settled_entered
  split
  · exact h.trans settled_firstEntry
  · exact h.trans settled_doorTest

theorem settled_nextLegDrive (hs : s.run.state ≠ .tripped) : Settled s (nextLegDrive s) := by
  unfold nextLegDrive
  dsimp only
  refine Settled.trans ?_ (settled_enterNextLeg (by rw [originateRun_run]; exact hs))
  exact (settled_onRecord _).trans (settled_originateRun _ (by simp))

theorem settled_enterResumed (value : Int) (hs : s.run.state ≠ .tripped) : Settled s (enterResumed value s) := by
  unfold enterResumed
  dsimp only
  apply settled_entered
  refine Settled.trans ?_ settled_doorTest
  refine Settled.trans ?_ (settled_pushEvent _ _ _ _)
  exact (settled_startMoving hs).trans settled_continueTargets

theorem settled_resumeDrive (hs : s.run.state ≠ .tripped) : Settled s (resumeDrive s) := by
  unfold resumeDrive
  exact (settled_originateRun _ (by simp)).trans (settled_enterResumed _ (by rw [originateRun_run]; exact hs))

theorem settled_closeWindow (hs : s.run.state ≠ .tripped) : Settled s (closeWindow s) := by
  unfold closeWindow
  exact (settled_onRun _ rfl (.inl hs)).trans settled_runStateEntered

theorem settled_enterHeld (hs : s.run.state ≠ .tripped) : Settled s (enterHeld s) := by
  unfold enterHeld
  dsimp only
  refine Settled.trans ?_ settled_runStateEntered
  refine Settled.trans ?_ (settled_completeIf _ _)
  refine Settled.trans ?_ (settled_pushEvent _ _ _ _)
  refine Settled.trans ?_ settled_announce
  exact (settled_onRecord _).trans (settled_setRunState _ hs)

theorem settled_endLeg (st : RunState) (hs : s.run.state ≠ .tripped) : Settled s (endLeg st s) := by
  have tail : ∀ a : State, Settled s a → Settled s (if st = .arrived then (a.onMarker Marker.disarm).onProfile fun p =>
      { p with traversal := none } else a) := by
    intro a ha
    split
    · exact (ha.trans settled_disarm).trans settled_emptyTraversal
    · exact ha
  unfold endLeg
  dsimp only
  apply tail
  refine Settled.trans ?_ settled_runStateEntered
  refine Settled.trans ?_ settled_clearReady
  refine Settled.trans ?_ (settled_setRunState _ (by exact hs))
  exact (settled_pushEvent _ _ _ _).trans (settled_onRecord _)

/-! ### What a standing line brings at a station other than the DRIVE -/

theorem settled_rejoin (id : RunId) (st : Status) (leg : Nat) (target : Int) (state : RunState)
    (hs : s.run.state ≠ .tripped) : Settled s (rejoin id st leg target state s) := by
  have htail : ∀ r : State, Settled s r → Settled s (if (recompute r).inState .moving
      then stopIfHeld (runStateEntered (firstEntry (recompute r))) else runStateEntered (recompute r)) := by
    intro r hr
    split
    · exact settled_entered ((hr.trans settled_recompute).trans settled_firstEntry)
    · exact (hr.trans settled_recompute).trans settled_runStateEntered
  unfold rejoin
  dsimp only
  apply htail
  refine Settled.trans ?_ (settled_pushEvent _ _ _ _)
  have h : Settled s (s.onRun fun r =>
      { r with state := state, run := { rejoinRecord id st leg with joinedInDwell := state == .dwell } }) :=
    settled_onRun _ rfl (.inl hs)
  split
  · exact (h.trans (settled_onRecord _)).trans settled_beginTargets
  · exact h.trans (settled_onRecord _)

theorem mayRejoin_idle (h : s.mayRejoin = true) : s.run.state = .idle := by
  simp only [State.mayRejoin, Bool.and_eq_true, State.inState, beq_iff_eq] at h
  exact h.1.1.1.1.1

theorem settled_rejoinOnStatus (st : Status) : Settled s (rejoinOnStatus st s) := by
  unfold rejoinOnStatus
  split
  · next h _ =>
    have hs : s.run.state ≠ .tripped := by rw [mayRejoin_idle h]; decide
    split
    · exact settled_rejoin _ _ _ _ _ hs
    · split
      · exact settled_rejoin _ _ _ _ _ hs
      · exact .refl s
  · exact .refl s

theorem settled_followLegEnd (st : Status) : Settled s (followLegEnd st s) := by
  unfold followLegEnd
  split
  · next h =>
    refine settled_endLeg _ ?_
    intro e
    simp [State.inMotion, State.inState, e] at h
  · exact .refl s

theorem settled_lostClose (st : Status) : Settled s (lostClose st s) := by
  unfold lostClose
  split
  · next h =>
    refine settled_endRun _ _ ?_
    intro e
    simp [State.inMotion, State.inState, e] at h
  · exact .refl s

theorem settled_standTests : Settled s (standTests s) := by
  unfold standTests
  split
  · split
    · split
      · exact settled_rejoinOnStatus _
      · exact .refl s
    · exact (settled_followLegEnd _).trans (settled_lostClose _)
  · exact .refl s

theorem settled_standIfBegun (before : State) : Settled s (standIfBegun before s) := by
  unfold standIfBegun
  split
  · exact settled_standTests
  · exact .refl s

/-! ### Housekeeping, run tests, outputs -/

theorem settled_adjustReference : Settled s (adjustReference s) := by
  unfold adjustReference
  split
  · exact settled_onRef _
  · exact settled_stopReference

theorem settled_housekeep : Settled s (housekeep s) :=
  ((settled_evaluate.trans settled_adjustReference).trans settled_formParking).trans settled_announce

theorem settled_runTests : Settled s (runTests s) := by
  unfold runTests
  split
  · exact .refl s
  · split
    · next h =>
      split
      · exact .refl s
      · exact settled_closeWindow (by rw [h]; decide)
    · next h =>
      split
      · exact settled_commit (by rw [h]; decide)
      · exact .refl s
    · next h =>
      exact settled_stopIfHeld
    · next h =>
      have hs : s.run.state ≠ .tripped := by rw [h]; decide
      split
      · split
        · exact settled_closeByDrive _ hs
        · exact .refl s
      · split
        · exact settled_enterResumed _ hs
        · split
          · exact settled_enterHeld hs
          · exact .refl s
    · next h =>
      split
      · exact settled_resumeDrive (by rw [h]; decide)
      · exact .refl s
    · next h =>
      split
      · exact settled_nextLegDrive (by rw [h]; decide)
      · exact .refl s
    · next h =>
      split
      · exact settled_closeByDrive _ (by rw [h]; decide)
      · exact .refl s
    · exact .refl s
    · exact .refl s

theorem settled_settleRun (n : Nat) : ∀ s, Settled s (settleRun n s) := by
  induction n with
  | zero => exact fun s => settled_housekeep
  | succ n ih =>
    intro s
    unfold settleRun
    dsimp only
    split
    · exact settled_housekeep
    · exact (settled_housekeep.trans settled_runTests).trans (ih _)

theorem checkStage_failed (st : Stage) : (s.checkStage st).failed = (s.brakes.unit st).failed := by
  unfold State.checkStage
  dsimp only
  split <;> rfl

theorem settled_checkBrakes : Settled s (checkBrakes s) := by
  have hb : ∀ b : Brakes, (s.checkEmergency b).stage1 = b.stage1 ∧ (s.checkEmergency b).stage2 = b.stage2
      ∧ (s.checkEmergency b).stage4 = b.stage4 ∧ (s.checkEmergency b).stage8 = b.stage8 := by
    intro b
    unfold State.checkEmergency
    split
    · exact ⟨rfl, rfl, rfl, rfl⟩
    · split <;> exact ⟨rfl, rfl, rfl, rfl⟩
  unfold checkBrakes
  split
  · refine settled_onBrakes _ ?_
    simp only [(hb _).1, (hb _).2.1, (hb _).2.2.1, (hb _).2.2.2, checkStage_failed]
    exact ⟨rfl, rfl, rfl, rfl⟩
  · exact .refl s

theorem settled_setOutputs (sample : Bool) (before : State) : Settled s (setOutputs sample before s) := by
  have h : ∀ a : State, Settled s a → Settled s ((startReferenceOutput sample a).onOutputs a.roleOutputs) := by
    intro a ha
    refine Settled.trans ?_ (settled_onOutputs _)
    unfold startReferenceOutput
    split
    · exact ha.trans (settled_onOutputs _)
    · exact ha
  have k : ∀ a : State, Settled s a → Settled s (if doorDue sample before a then refreshDoor a else a) := by
    intro a ha
    split
    · exact ha.trans settled_refreshDoor
    · exact ha
  exact k _ (h _ settled_checkBrakes)

/-- What follows an event leaves the kept part of the state and keeps the promises of `Settled`. -/
theorem settled_finishWith (sample : Bool) (before : State) : Settled s (finishWith sample before s) :=
  ((settled_standIfBegun before).trans (settled_settleRun 6 _)).trans (settled_setOutputs sample before)

/-- Between a state and a settled one no line standstill begins, so `finishWith` is the run tests and the outputs. -/
theorem standIfBegun_settled {before : State} (h : Settled before s) : standIfBegun before s = s := by
  unfold standIfBegun
  rw [h.lineStandstill]
  simp

end Sys2Proof.Machine
end

