-- ==== Sys2Proof/Laws/Commands.lean ====
section
/-! SUPPORT. What the commands do before their reactions: the run controller's part, the drive's sample, the marker monitor's
faults and the delivery of run frames settle too; and what an event's next state is. -/

namespace Sys2Proof.Machine

variable {s : State}

/-! ### The next state of an event -/

theorem event_next (f : State → State) (h : s.phase = .running) : event s f = .next (finishWith false s (f s)) := by
  simp [event, h]

theorem quietEvent_next (f : State → State) (h : s.phase = .running) : quietEvent s f = .next (f s) := by
  simp [quietEvent, h]

theorem portEvent_next (f : State → State) (h : s.phase = .running) :
    portEvent s f = .next ((f s).onOutputs fun o => { o with attn := (f s).attnNow }) := by
  simp [portEvent, quietEvent, h]

/-- Outside operation an event changes nothing (R189). -/
theorem event_idle (f : State → State) (h : s.phase ≠ .running) : event s f = .next s := by simp [event, h]

/-- An event whose own effect settles from `u` answers a next state that settles from `u`. -/
theorem event_settled {u : State} (f : State → State) (h : s.phase = .running) (hf : Settled u (f s)) :
    ∃ t, event s f = .next t ∧ Settled u t := ⟨_, event_next f h, hf.trans (settled_finishWith false s)⟩

/-! ### Holds and aborts -/

theorem settled_changeHolds (f : Vector (Option Bool) 8 → Vector (Option Bool) 8) : Settled s (changeHolds f s) := by
  unfold changeHolds sendHoldFlag
  refine Settled.trans ?_ settled_runTests
  split
  · exact Settled.trans (settled_onRecord _) (settled_originateRun _ (by simp))
  · split
    · exact Settled.trans (settled_onRecord _) (settled_originateRun _ (by simp))
    · exact settled_onRecord _

theorem settled_enterHold (i : Slot) (implicit : Bool) : Settled s (enterHold i implicit s) := by
  unfold enterHold
  split
  · exact settled_changeHolds _
  · exact .refl s

theorem settled_removeHold (i : Slot) : Settled s (removeHold i s) := settled_changeHolds _

theorem settled_enterOwnHold : Settled s (enterOwnHold s) := by
  unfold enterOwnHold
  refine Settled.trans ?_ (settled_enterHold _ _)
  split
  · exact settled_originateRun _ (by simp)
  · exact .refl s

theorem settled_takeAbort (hs : s.run.state ≠ .tripped) : Settled s (takeAbort s) := by
  unfold takeAbort
  split
  · exact settled_closeByDrive _ hs
  · exact (settled_onRecord _).trans settled_runTests

/-! ### Opening and additions -/

theorem settled_insertStop (e : StopEntry) : Settled s (insertStop e s) := settled_onRecord _
theorem settled_restartDispatch : Settled s (restartDispatch s) := settled_onRecord _
theorem settled_placeDriven (target : Int) : Settled s (placeDriven target s) := by
  unfold placeDriven
  exact settled_onRecord _

theorem settled_followTarget (target : Int) : Settled s (followTarget target s) := by
  have h : ∀ a : State, Settled s a → Settled s (if a.stopsAt target then a
      else a.onRecord fun r => { r with driven := some target }) := by
    intro a ha
    split
    · exact ha
    · exact ha.trans (settled_onRecord _)
  unfold followTarget
  dsimp only
  split
  · exact settled_onRecord _
  · apply h
    refine Settled.trans ?_ (settled_placeDriven _)
    exact Settled.trans (settled_onRecord _) (settled_onRecord _)

theorem followTarget_state (target : Int) : (followTarget target s).run.state = s.run.state := by
  unfold followTarget
  dsimp only
  split
  · rfl
  · split <;> rfl

theorem settled_startedBy (sign : StartSign) : Settled s (startedBy sign s) := settled_onRecord _
theorem settled_signTaken : Settled s (signTaken s) := settled_onRecord _

theorem settled_enterDispatch (id : RunId) (kind : RunKind) (dir : Dir) (loopStop : Bool) (hs : s.run.state ≠ .tripped) :
    Settled s (enterDispatch id kind dir loopStop s) := by
  unfold enterDispatch
  dsimp only
  refine Settled.trans ?_ settled_recompute
  refine Settled.trans ?_ settled_runStateEntered
  refine Settled.trans ?_ (settled_pushEvent _ _ _ _)
  refine Settled.trans ?_ settled_restartDispatch
  split
  · refine Settled.trans ?_ (settled_insertStop _)
    refine Settled.trans ?_ (settled_onRecord _)
    exact settled_onRun _ rfl (.inl hs)
  · refine Settled.trans ?_ (settled_onRecord _)
    exact settled_onRun _ rfl (.inl hs)

theorem settled_addHaltEntry (pos : Int) : Settled s (addHaltEntry pos s) :=
  (settled_insertStop _).trans settled_restartDispatch

theorem settled_addLoopEntry : Settled s (addLoopEntry s) := by
  unfold addLoopEntry
  split
  · exact .refl s
  · exact settled_insertStop _

/-! ### The drive's sample and the marker monitor -/

theorem settled_decideLoop : Settled s (decideLoop s) := by
  have h1 : ∀ (a : State) (r : Result) (k : Slot) (b : Option Nat) (v : Int), Settled s a →
      Settled s (completeIf .callLoop r (pushEvent .loopDecided k b v a)) := by
    intro a r k b v ha
    exact (ha.trans (settled_pushEvent _ _ _ _)).trans (settled_completeIf _ _)
  have h2 : ∀ (a : State) (was : Bool), Settled s a → Settled s (if a.loopLeg && !was then beginTargets a else a) := by
    intro a was ha
    split
    · exact ha.trans settled_beginTargets
    · exact ha
  have h3 : ∀ (a : State) (stop : Bool), Settled s a →
      Settled s (if stop = true then insertStop (loopEntry a.params .pending) a else a) := by
    intro a stop ha
    split
    · exact ha.trans (settled_insertStop _)
    · exact ha
  unfold decideLoop
  split
  · dsimp only
    exact h1 _ _ _ _ _ (h2 _ _ (h3 _ _ (settled_onRecord _)))
  · exact .refl s

theorem settled_updateReference : Settled s (updateReference s) := by
  unfold updateReference
  split
  · exact settled_onRef _
  · exact .refl s

theorem settled_reachStop : Settled s (reachStop s) := by
  unfold reachStop
  split
  · next h =>
    refine settled_endLeg _ ?_
    intro e
    simp [State.stopReached, State.inState, e] at h
  · exact .refl s

theorem settled_driveSample : Settled s (driveSample s) :=
  ((settled_decideLoop.trans (settled_reevaluateIfChanged _)).trans settled_updateReference).trans settled_reachStop

theorem settled_handEstimate : Settled s (handEstimate s) := Settled.plain rfl rfl rfl (fun h _ => h) rfl rfl

theorem settled_markerFault (kind : EventKind) (value : Int) (e : Expected) : Settled s (markerFault kind value e s) := by
  unfold markerFault
  dsimp only
  have h : ∀ a : State, Settled s a → Settled s (if 2 ≤ a.marker.faults then latchTrip .mark a else a) := by
    intro a ha
    split
    · exact ha.trans (settled_latchTrip _)
    · exact ha
  apply h
  refine Settled.trans ?_ (settled_onMarker _ fun _ => ⟨rfl, rfl⟩)
  refine Settled.trans ?_ (settled_pushEvent _ _ _ _)
  exact (settled_unproveBlock _ _ _).trans settled_checkTraversal

theorem settled_missTest (n : Nat) : ∀ s, Settled s (missTest n s) := by
  induction n with
  | zero => exact fun s => .refl s
  | succ n ih =>
    intro s
    unfold missTest
    split
    · dsimp only
      split
      · exact settled_markerFault _ _ _
      · exact (settled_markerFault _ _ _).trans (ih _)
    · exact .refl s

theorem settled_chooseAwaited : Settled s (chooseAwaited s) := by
  unfold chooseAwaited
  split
  · exact settled_onMarker _ fun _ => ⟨rfl, rfl⟩
  · exact .refl s

/-! ### Run frames and the drive's run view -/

theorem settled_followLegZero (sign : StartSign) (target : Int) (hs : s.run.state ≠ .tripped) :
    Settled s (followLegZero sign target s) :=
  ((settled_startedBy sign).trans (settled_followTarget _)).trans
    (settled_enterLegZero _ (by rw [followTarget_state]; exact hs))

theorem settled_nextLegFollow (sign : StartSign) (target : Int) (hs : s.run.state ≠ .tripped) :
    Settled s (nextLegFollow sign target s) :=
  (((settled_onRecord _).trans (settled_startedBy sign)).trans (settled_followTarget _)).trans
    (settled_enterNextLeg (by rw [followTarget_state]; exact hs))

theorem settled_resumeFollow (sign : StartSign) (target : Int) (hs : s.run.state ≠ .tripped) :
    Settled s (resumeFollow sign target s) :=
  ((settled_startedBy sign).trans (settled_followTarget _)).trans
    (settled_enterResumed _ (by rw [followTarget_state]; exact hs))

theorem settled_adoptDecision (st : Status) (slot : Slot) : Settled s (adoptDecision st slot s) := by
  have h1 : ∀ (a : State) (r : Result) (k : Slot) (b : Option Nat) (v : Int), Settled s a →
      Settled s (completeIf .callLoop r (pushEvent .loopDecided k b v a)) := by
    intro a r k b v ha
    exact (ha.trans (settled_pushEvent _ _ _ _)).trans (settled_completeIf _ _)
  have h2 : ∀ (a : State) (was : Bool), Settled s a →
      Settled s (if a.loopLeg && !was && !a.inState .dwell then beginTargets (a.onRecord fun r => { r with driven := none })
        else a) := by
    intro a was ha
    split
    · exact (ha.trans (settled_onRecord _)).trans settled_beginTargets
    · exact ha
  have h3 : ∀ a : State, Settled s a →
      Settled s (if st.decision = .stop ∧ a.hasLoopEntry = false then insertStop (loopEntry a.params .pending) a else a) := by
    intro a ha
    split
    · exact ha.trans (settled_insertStop _)
    · exact ha
  unfold adoptDecision
  split
  · dsimp only
    exact h1 _ _ _ _ _ (h2 _ _ (h3 _ (settled_onRecord _)))
  · exact .refl s

theorem settled_followStart (st : Status) : Settled s (followStart st s) := by
  unfold followStart
  dsimp only
  split
  · next h =>
    split
    · exact settled_followLegZero _ _ (by rw [h]; decide)
    · exact .refl s
  · next h =>
    have hs : s.run.state ≠ .tripped := by rw [h]; decide
    split
    · exact settled_followLegZero _ _ hs
    · split
      · exact settled_endRun _ _ hs
      · exact .refl s
  · next h =>
    split
    · exact settled_nextLegFollow _ _ (by rw [h]; decide)
    · exact .refl s
  · next h =>
    have hs : s.run.state ≠ .tripped := by rw [h]; decide
    split
    · split
      · exact settled_signTaken
      · exact settled_resumeFollow _ _ hs
    · exact .refl s
  · split
    · exact settled_signTaken
    · exact .refl s
  · split
    · exact settled_signTaken
    · exact .refl s
  all_goals exact .refl s

theorem settled_followCount (st : Status) : Settled s (followCount st s) := by
  unfold followCount
  split
  · exact settled_onRecord _
  · exact .refl s

theorem settled_followDriveStop (st : Status) : Settled s (followDriveStop st s) := by
  unfold followDriveStop
  split
  · exact settled_signTaken
  · exact .refl s

theorem settled_takeDriveView (st : Status) (slot : Slot) : Settled s (takeDriveView st slot s) := by
  unfold takeDriveView
  split
  · exact settled_rejoinOnStatus _
  · dsimp only
    exact ((((((settled_followCount _).trans (settled_followDriveStop _)).trans (settled_adoptDecision _ _)).trans
      (settled_reevaluateIfChanged _)).trans (settled_followStart _)).trans (settled_followLegEnd _)).trans (settled_lostClose _)

theorem settled_exitTripped : Settled s (exitTripped s) := by
  unfold exitTripped
  split
  · next h =>
    have hn : s.tripAsserted = false := by simp at h; exact h.2
    have h0 : Settled s (runStateEntered (s.onRun fun r =>
        { r with state := .idle, run := { RunRecord.empty with consents := r.run.consents } })) :=
      (settled_onRun _ rfl (.inr (.inr hn))).trans settled_runStateEntered
    have h1 : ∀ d : Bool, Settled s (if d then recompute (runStateEntered (s.onRun fun r =>
          { r with state := .idle, run := { RunRecord.empty with consents := r.run.consents } }))
        else runStateEntered (s.onRun fun r => { r with state := .idle, run := { RunRecord.empty with consents := r.run.consents } })) := by
      intro d
      split
      · exact h0.trans settled_recompute
      · exact h0
    dsimp only
    split
    · exact (h1 _).trans (settled_rejoinOnStatus _)
    · exact h1 _
  · exact .refl s

theorem settled_rejoinOnGo (id : RunId) (leg : Nat) (target : Int) : Settled s (rejoinOnGo id leg target s) := by
  unfold rejoinOnGo
  split
  · split
    · next h => exact settled_rejoin _ _ _ _ _ (by rw [mayRejoin_idle h.1]; decide)
    · exact .refl s
  · exact .refl s

theorem settled_takeRunOpen (id : RunId) (kind : RunKind) (dir : Dir) (loopStop : Bool) :
    Settled s (takeRunOpen id kind dir loopStop s) := by
  have hw : s.run.state ≠ .tripped → Settled s (if (endRun .contention id.origin s).inState .idle
      then enterDispatch id kind dir loopStop (endRun .contention id.origin s) else endRun .contention id.origin s) := by
    intro hs
    split
    · next h => exact (settled_endRun _ _ hs).trans (settled_enterDispatch _ _ _ _ (by
        intro e
        simp [State.inState, e] at h))
    · exact settled_endRun _ _ hs
  unfold takeRunOpen
  split
  · next h => exact settled_enterDispatch _ _ _ _ (by rw [h]; decide)
  · next h _ =>
    split
    · exact hw (by rw [h]; decide)
    · exact .refl s
  · next h _ =>
    split
    · exact hw (by rw [h]; decide)
    · exact .refl s
  · exact .refl s

theorem settled_takeAddStop (pos : Int) : Settled s (takeAddStop pos s) := by
  unfold takeAddStop
  split
  · exact settled_addHaltEntry _
  · exact .refl s

theorem settled_takeLoopCall : Settled s (takeLoopCall s) := by
  unfold takeLoopCall
  split
  · exact .refl s
  · split
    · split
      · dsimp only
        split
        · exact settled_addLoopEntry.trans settled_restartDispatch
        · exact settled_addLoopEntry
      · exact .refl s
    · split
      · exact settled_onRecord _
      · exact .refl s

theorem settled_takeRunGo (id : RunId) (leg : Nat) (target : Int) : Settled s (takeRunGo id leg target s) := by
  unfold takeRunGo
  split
  · exact .refl s
  · dsimp only
    split
    · exact settled_rejoinOnGo _ _ _
    · next h =>
      have hs : s.run.state ≠ .tripped := by rw [h]; decide
      split
      · split
        · exact settled_followLegZero _ _ hs
        · exact .refl s
      · exact (settled_endRun _ _ hs).trans (settled_rejoinOnGo _ _ _)
    · next h =>
      have hs : s.run.state ≠ .tripped := by rw [h]; decide
      split
      · split
        · exact settled_followLegZero _ _ hs
        · exact .refl s
      · exact (settled_endRun _ _ hs).trans (settled_rejoinOnGo _ _ _)
    · next h =>
      split
      · exact settled_nextLegFollow _ _ (by rw [h]; decide)
      · exact .refl s
    · next h =>
      split
      · split
        · exact settled_signTaken
        · exact settled_resumeFollow _ _ (by rw [h]; decide)
      · exact .refl s
    · split
      · exact settled_signTaken
      · exact .refl s
    · split
      · exact settled_signTaken
      · exact .refl s
    all_goals exact .refl s

theorem settled_takeRunClose (i : Slot) (id : RunId) (cause : CloseCause) : Settled s (takeRunClose i id cause s) := by
  unfold takeRunClose
  split
  · next h =>
    refine settled_endRun _ _ ?_
    intro e
    simp [State.inState, e] at h
  · exact .refl s

theorem settled_takeAbortFrame (id : RunId) : Settled s (takeAbortFrame id s) := by
  unfold takeAbortFrame
  split
  · next h =>
    refine settled_takeAbort ?_
    intro e
    simp [State.inState, e] at h
  · exact .refl s

/-- Every frame but STATUS and TRIP settles: it reaches the run controller alone (R55). -/
theorem settled_deliver (i : Slot) (b : Body) (h1 : ∀ st, b ≠ .status st) (h2 : ∀ c, b ≠ .trip c) :
    Settled s (deliver i b s) := by
  have hif : ∀ (p : Bool) (a : State), Settled s a → Settled s (if p = true then a else s) := by
    intro p a ha
    split
    · exact ha
    · exact .refl s
  cases b with
  | status st => exact absurd rfl (h1 st)
  | runOpen id k d f => exact hif _ _ (settled_takeRunOpen _ _ _ _)
  | addStop id p => exact hif _ _ (settled_takeAddStop _)
  | loopCall id => exact hif _ _ settled_takeLoopCall
  | runGo id leg t => exact hif _ _ (settled_takeRunGo _ _ _)
  | runClose id c => exact hif _ _ (settled_takeRunClose _ _ _)
  | hold id => exact hif _ _ (settled_enterHold _ _)
  | release id => exact hif _ _ (settled_removeHold _)
  | abort id => exact settled_takeAbortFrame _
  | trip c => exact absurd rfl (h2 c)

/-! ### The consent view -/

theorem dropConsent_consents (i j : Slot) (s : State) :
    (dropConsent i s).run.run.consents.get j = if i = j then none else s.run.run.consents.get j := setAt_get_eq _ _ _ _

/-- What an accepted STATUS makes of the consent view (R97). -/
theorem takeConsent_consents (i j : Slot) (st : Status) (s : State) :
    (takeConsent i st s).run.run.consents.get j =
      if i = j then (if s.isDrive = true ∧ (s.peer i).state = .present then st.consentsTo else none)
      else s.run.run.consents.get j := by
  unfold takeConsent
  by_cases h : s.isDrive = true ∧ (s.peer i).state = .present
  · rw [if_pos (by simp [h]), if_pos h]
    exact setAt_get_eq _ _ _ _
  · rw [if_neg (by simpa using h), if_neg h]
    exact dropConsent_consents _ _ _

end Sys2Proof.Machine
end

