-- ==== Sys2Proof/Laws/LineCoding.lean ====
section
/-! SUPPORT. The line level, and the bits and levels of bytes. -/

namespace Sys2Proof.Machine

/-- The line is recessive only when every station leaves it recessive (R42). -/
theorem lineLevel_recessive (driven : List Bool) : lineLevel driven = true ↔ ∀ d ∈ driven, d = true := by
  simp [lineLevel]

@[simp] theorem byteBits_length (b : Byte) : (byteBits b).length = 8 := by simp [byteBits]

/-- The bits of a byte read back as the byte, whatever bits follow. -/
theorem bytesOfBits_byteBits (b : Byte) (rest : List Bool) :
    bytesOfBits (byteBits b ++ rest) = b :: bytesOfBits rest := by
  have h : ∀ b : Byte, byteOf ((byteBits b).foldl (fun acc b => 2 * acc + b.toNat) 0) = b := by decide
  conv => rhs; rw [← h b]
  rfl

/-- The bits of bytes read back as the bytes. -/
theorem bytesOfBits_flatMap (bytes : List Byte) : bytesOfBits (bytes.flatMap byteBits) = bytes := by
  induction bytes with
  | nil => rfl
  | cons b bs ih => rw [List.flatMap_cons, bytesOfBits_byteBits, ih]

end Sys2Proof.Machine
end

