-- ==== Sys2Proof/WellFormed.lean ====
section
/-! DEFINITION. Which commands are well formed: what the operands' types do not already hold. -/

namespace Sys2Proof

/-- The command codes 1 to 13 of section 10.3 name a command. -/
def namesCommand (code : Byte) : Bool := 1 ≤ code.toNat && code.toNat ≤ 13

/-- A command is well formed when its operands are ones the part can meet: WRITE_PARAM carries one to six words (R177), an
unknown command's code names no command (R179), and a read transfer ends on a word boundary (R177). -/
def Instr.wellFormed : Instr → Bool
  | .writeParam ws => 1 ≤ ws.length && ws.length ≤ 6
  | .unknownCommand c => !namesCommand c
  | .readTransferEnd bits => bits % 32 == 0
  | _ => true

end Sys2Proof
end

