-- ==== Sys2Proof/Laws/PerInstr.lean ====
section
/-! SUPPORT. What well-formedness asks of each command, one lemma for each constructor. -/

namespace Sys2Proof.Laws.Wellformed

/-- Well-formedness says of a command's operands exactly what the spec does: one to six parameter words (R177), a code that names
no command (R179), whole words clocked out (R177); of every other command nothing. -/
def Statement : Instr → Prop
  | .writeParam ws => (Instr.writeParam ws).wellFormed = true ↔ 1 ≤ ws.length ∧ ws.length ≤ 6
  | .unknownCommand c => (Instr.unknownCommand c).wellFormed = true ↔ c = 0 ∨ 13 < c.toNat
  | .readTransferEnd bits => (Instr.readTransferEnd bits).wellFormed = true ↔ 32 ∣ bits
  | i => i.wellFormed = true

theorem resetAssert : Statement .resetAssert := rfl
theorem startUp (slotStraps : Slot) (roleStraps : Fin 8) : Statement (.startUp slotStraps roleStraps) := rfl
theorem startUpComplete (image : List Byte) (pins : PlantPins) : Statement (.startUpComplete image pins) := rfl
theorem listenPeriodExpiry : Statement .listenPeriodExpiry := rfl
theorem sampleTimerExpiry (count : Word32) : Statement (.sampleTimerExpiry count) := rfl
theorem standstillTimerExpiry : Statement .standstillTimerExpiry := rfl
theorem referenceSwitchActive (sw : RefSwitch) (count : Word32) : Statement (.referenceSwitchActive sw count) := rfl
theorem setPosition : Statement .setPosition := rfl
theorem markerArrival (code : BitVec 6) (count : Word32) : Statement (.markerArrival code count) := rfl
theorem detectorActive (d : Detector) : Statement (.detectorActive d) := rfl
theorem detectorInactive (d : Detector) : Statement (.detectorInactive d) := rfl
theorem stuckTimerExpiry (d : Detector) : Statement (.stuckTimerExpiry d) := rfl
theorem recomputationTimerExpiry : Statement .recomputationTimerExpiry := rfl
theorem frameArrival (line : LineId) (bytes : List Byte) (delimited : Bool) : Statement (.frameArrival line bytes delimited) := rfl
theorem lineIdle (line : LineId) : Statement (.lineIdle line) := rfl
theorem txStart (line : LineId) : Statement (.txStart line) := rfl
theorem txComplete (line : LineId) : Statement (.txComplete line) := rfl
theorem arbitrationLost (line : LineId) : Statement (.arbitrationLost line) := rfl
theorem readbackDisagreement (line : LineId) : Statement (.readbackDisagreement line) := rfl
theorem silenceTimerExpiry (line : LineId) : Statement (.silenceTimerExpiry line) := rfl
theorem staleTimerExpiry (slot : Slot) : Statement (.staleTimerExpiry slot) := rfl
theorem lostTimerExpiry (slot : Slot) : Statement (.lostTimerExpiry slot) := rfl
theorem statusTimerExpiry : Statement .statusTimerExpiry := rfl
theorem loadTimerExpiry : Statement .loadTimerExpiry := rfl
theorem setLoad : Statement .setLoad := rfl
theorem requestRun : Statement .requestRun := rfl
theorem addHalt : Statement .addHalt := rfl
theorem callLoop : Statement .callLoop := rfl
theorem hold : Statement .hold := rfl
theorem release : Statement .release := rfl
theorem abort : Statement .abort := rfl
theorem confirmReady : Statement .confirmReady := rfl
theorem dispatchTimerExpiry : Statement .dispatchTimerExpiry := rfl
theorem consentTimerExpiry : Statement .consentTimerExpiry := rfl
theorem goGuardTimerExpiry : Statement .goGuardTimerExpiry := rfl
theorem doorClosedChange (closed : Bool) : Statement (.doorClosedChange closed) := rfl
theorem stageFeedbackChange (stage : Stage) (applied : Bool) : Statement (.stageFeedbackChange stage applied) := rfl
theorem stageCheckTimerExpiry (stage : Stage) : Statement (.stageCheckTimerExpiry stage) := rfl
theorem emergencyBrakeFeedbackChange (applied : Bool) : Statement (.emergencyBrakeFeedbackChange applied) := rfl
theorem emergencyBrakeTimerExpiry : Statement .emergencyBrakeTimerExpiry := rfl
theorem emergencyStopInput : Statement .emergencyStopInput := rfl
theorem trip : Statement .trip := rfl
theorem resetTrip : Statement .resetTrip := rfl
theorem unproveAll : Statement .unproveAll := rfl
theorem setRestriction : Statement .setRestriction := rfl
theorem writeParam (words : List Word32) : Statement (.writeParam words) := by simp [Statement, Instr.wellFormed]
theorem unknownCommand (code : Byte) : Statement (.unknownCommand code) := by
  have h : code = 0 ↔ code.toNat = 0 := by simp [← BitVec.toNat_inj]
  simp only [Statement, Instr.wellFormed, namesCommand, h, Bool.not_eq_true', Bool.and_eq_false_iff, decide_eq_false_iff_not]
  omega
theorem readResult : Statement .readResult := rfl
theorem readEvent : Statement .readEvent := rfl
theorem readView (selector : Word32) : Statement (.readView selector) := rfl
theorem readTransferEnd (bits : Nat) : Statement (.readTransferEnd bits) := by simp [Statement, Instr.wellFormed, Nat.dvd_iff_mod_eq_zero]
theorem referenceSwitchInactive (sw : RefSwitch) : Statement (.referenceSwitchInactive sw) := rfl
theorem emergencyStopInactive : Statement .emergencyStopInactive := rfl
theorem lineStartBit (line : LineId) : Statement (.lineStartBit line) := rfl

end Sys2Proof.Laws.Wellformed
end

