-- ==== Sys2Proof/Tests/Slice0.lean ====
section
/-! SUPPORT. The model's own tests: ill-formed commands, the manual's worked examples and formats, single commands on small
states, and states that meet the hypotheses of the statements. Expected values come from the manual. -/

open Sys2Proof Sys2Proof.Machine

-- One kernel evaluation at a time: each of the theorems below would otherwise take a thread of its own.
set_option Elab.async false

namespace Sys2Proof.Tests

/-! ### Well-formedness -/

theorem test_no_parameter_word_is_ill_formed : (Instr.writeParam []).wellFormed = false := by decide
theorem test_seven_parameter_words_are_ill_formed : (Instr.writeParam [1, 2, 3, 4, 5, 6, 7]).wellFormed = false := by decide
theorem test_named_code_is_no_unknown_command : (Instr.unknownCommand 13).wellFormed = false := by decide
theorem test_part_of_a_word_is_ill_formed : (Instr.readTransferEnd 33).wellFormed = false := by decide

/-! ### A small installation: three blocks of 20 m, the middle one the loop block -/

def parameterValues : List Int :=
  [60000, 3, 2, 1, 30000, 30300, 150, 1000, 3000, 8000, 3000, 6000, 1500, 300, 20, 2000, 5000, 12000, 6000, 300, 600,
   500, 400, 100, 300, 2000, 9000, 12000, 14000, 700, 150, 200, 600, 1500, 500, 100, 300, 1000, 4000, 2000, 60000, 20,
   200, 200, 30000, 1000, 1000, 1000, 60, 0, 0, 0, 25000, 35000, 25000, 35000]

def bytes4 (v : Int) : List Byte := word4 (BitVec.ofInt 32 v)
def blockBytes (a b flags : Nat) : List Byte :=
  bytes4 20000 ++ bytes4 6000 ++ word2 420 ++ word2 380 ++ bytes4 (-1200000) ++ [byteOf a, byteOf b, byteOf flags, 0]
def imageBody : List Byte :=
  bytes4 1 ++ bytes4 294 ++ parameterValues.flatMap bytes4 ++ blockBytes 0 0 0 ++ blockBytes 17 23 1 ++ blockBytes 41 9 0
def imageBytes : List Byte := imageBody ++ checkBytes imageBody

def params : Params := parseParams imageBody
def image : Image := ⟨params, parseBlocks imageBody 3⟩
def blockK : Block := blockAt image.blocks 0

/-- What a command leaves. -/
def after (c : Instr) (s : State) : State := match exec c s with | .next t => t | _ => s

/-- A part in operation at slot 1, with role straps `role` and nothing received. -/
def station (role : Fin 8) : State :=
  { State.reset with
    phase := .running, clock := 1000, straps := ⟨1, role⟩, loader := ⟨some image, none, (9, 9), 0, none⟩
    pos := { State.reset.pos with sampleTimer := some 0 } }

/-- The same with a run held. -/
def holding (role : Fin 8) (kind : RunKind) (st : RunState) : State :=
  { station role with run := ⟨st, 1, { RunRecord.empty with hdr := some ⟨⟨1, 1⟩, kind, .up⟩ }⟩ }

def withParams (s : State) (a b c d : Int) : State :=
  { s with port := { s.port with
      params := #v[BitVec.ofInt 32 a, BitVec.ofInt 32 b, BitVec.ofInt 32 c, BitVec.ofInt 32 d, 0, 0] } }

def placed (x : Int) (s : State) : State := { s with sup := ⟨some (x, 0), [], 0⟩ }

def loading : State := { State.reset with phase := .loading, straps := ⟨1, 1⟩ }
def started : State := after (.startUpComplete imageBytes { PlantPins.none with valley := true }) loading

/-! ### Start-up -/

/-- 8 bytes, 56 parameter words, 20 bytes a block, 2 bytes of check (11.3). -/
theorem test_image_of_three_blocks_is_valid :
    imageBytes.length = 294 ∧ (loadImage 1 imageBytes).toOption.isSome = true
      ∧ params.inRange = true ∧ blockK.length = 20000 ∧ blockK.balance = -1200000 := by decide +kernel
theorem test_active_valley_switch_places_the_drive_at_start_up :
    started.phase = .running ∧ started.pos.x = 0 ∧ started.pos.quality = .confirmed ∧ started.run.state = .idle
      ∧ started.loader.listenTimer = some 2000 := by decide +kernel
/-- One bit of the image changed: its check fails (R190, code 4), and the part trips with CONFIG (R193). -/
theorem test_corrupt_image_trips :
    let t := after (.startUpComplete (imageBytes.set 40 77) PlantPins.none) loading
    t.trips.latch = some .config ∧ t.run.state = .tripped ∧ t.port.queue.map (·.kind) = [.tripLatched, .configFault] := by
  decide +kernel
theorem test_reset_keeps_the_output_stage_safe :
    (after .resetAssert (station 1)).outputs = Outputs.safe ∧ (after (.startUp 3 5) State.reset).straps = ⟨3, 5⟩ := by decide

/-! ### Worked examples of the manual -/

/-- Section 3.2: 49, 2, 164, 10 give 225 and 30; the first two exchanged, 225 and 238. -/
theorem test_check_example :
    runningSums [49, 2, 164, 10] = (225, 30) ∧ runningSums [2, 49, 164, 10] = (225, 238) := by decide

/-- Section 2.2: the five rings of car A. -/
theorem test_ring_example :
    ([[(100000, 1000), (100080, 1020), (100161, 1040), (100239, 1060)],
      [(100080, 1020), (100161, 1040), (100239, 1060), (100320, 1080)], [(100400, 1091)],
      [(100400, 1091), (100437, 1100)], [(100400, 1091), (100437, 1100), (100517, 1120)]] : List (List (Int × Word32))).map
        ringSpeed = [3983, 4000, 0, 4111, 4034] := by decide

/-- Section 4.5: −3,333 × 7 / 1000 rounds to −24 on a DOWN run and to −23 on an UP run. -/
theorem test_extrapolation_example :
    extrapolationTerm (some .down) (-3333) 7 = -24 ∧ extrapolationTerm (some .up) (-3333) 7 = -23 := by decide

/-- Section 7.7: masses, drift, guaranteed decelerations with all stages and with stage 4 failed. -/
theorem test_deceleration_example :
    params.totalMass 4200 600 = 36800 ∧ params.driftNumerator blockK 4200 600 = -3096000
      ∧ [1500, 1100].map (params.guaranteedFor · blockK .down (4200, 600)) = [674, 274]
      ∧ [1500, 1100].map (params.guaranteedFor · blockK .up (4200, 600)) = [2000, 1925] := by decide +kernel

/-- Section 4.7: car A's load unknown. -/
theorem test_stale_load_example :
    [0, 12000].map (fun l => params.guaranteedFor 1500 blockK .down (l, 600)) = [1099, 98]
      ∧ [0, 12000].map (fun l => params.guaranteedFor 1500 blockK .up (l, 600)) = [1900, 2000] := by decide +kernel

/-- Section 7.7: d at 6,000 mm/s to the EOA and to a boundary of 4,000, and the levels of the service intervention. -/
theorem test_stopping_distance_example :
    stoppingDistance 700 6000 0 674 = 30907 ∧ stoppingDistance 700 6000 4000 674 = 19037
      ∧ [params.distanceLevel 30907 48000, params.distanceLevel 19037 20000, params.distanceLevel 30907 36500,
         params.distanceLevel 20452 26900, params.distanceLevel 0 9800] = [.none, .service, .service, .advise, .advise] := by
  decide +kernel

/-- Section 6.2: v_brk, the look-ahead terms, and the falling step of one computation. -/
theorem test_speed_reference_example :
    params.brakingSpeed 40000 337 = 5069 ∧ [15000, 14892, 2000].map (fun d => isqrt (1500 ^ 2 + 2 * 337 * d)) = [3515, 3505, 1896]
      ∧ params.rampStep 337 3515 5400 = 5393 := by decide +kernel

/-- Section 6.5: the two berthing cases, and the offsets of 0. -/
theorem test_berthing_example :
    let p := { params with pA := 1600000, pB := 1600300 }
    berthTarget p (-420) 120 = (1600300, none) ∧ berthTarget p (-420) 400 = (1600160, some 220)
      ∧ berthTarget p 0 0 = (1600150, none) := by decide +kernel

def oneFailed (st : Stage) : Brakes :=
  let f : StageUnit := ⟨true, none⟩
  match st with
  | .w1 => { State.reset.brakes with stage1 := f }
  | .w2 => { State.reset.brakes with stage2 := f }
  | .w4 => { State.reset.brakes with stage4 := f }
  | .w8 => { State.reset.brakes with stage8 := f }

/-- Chapter 9, worked case: a required level of 13 with every stage healthy, with stage 4 failed, with stage 1 failed. -/
theorem test_parking_example :
    params.requiredFor blockK (4200, 600) = 13 ∧ State.reset.brakes.appliedLevel 13 = 13
      ∧ (oneFailed .w4).appliedLevel 13 = 11 ∧ (oneFailed .w4).reaches 13 = false ∧ (oneFailed .w1).appliedLevel 13 = 14
      ∧ (List.range 16).filter (oneFailed .w4).achievable = [0, 1, 2, 3, 8, 9, 10, 11] := by decide +kernel

/-- Section 1.5: coverage of ten blocks, and the clamping of count and speed of a received entry. -/
theorem test_restriction_example :
    (List.range 10).filter (Restriction.covers ⟨false, 4, false, 3000⟩ 10) = [0, 1, 2, 3]
      ∧ (List.range 10).filter (Restriction.covers ⟨true, 3, true, 6000⟩ 10) = [0, 1, 2, 3, 4, 5, 6] := by decide

/-- Section 3.5: acceptance at one receiver. -/
theorem test_acceptance_example :
    [accepts (some 252) 253, accepts (some 253) 253, accepts (some 253) 254, accepts (some 255) 1, accepts (some 1) 0,
      accepts none 0] = [true, false, true, true, false, true] := by decide

/-! ### Frames (11.2) -/

/-- A RUN_OPEN of slot 3, counter 7, SERVICE UP with a loop stop, and a TRIP: sync, header and payload written out. -/
theorem test_frames_are_read_as_sent :
    parseFrame (frameBytes 3 9 (.runOpen ⟨3, 7⟩ .service .up true)) true = some ⟨3, 9, .runOpen ⟨3, 7⟩ .service .up true⟩
      ∧ parseFrame (frameBytes 3 9 (.trip .recon)) true = some ⟨3, 9, .trip .recon⟩
      ∧ parseFrame (frameBytes 3 9 (.trip .recon)) false = none
      ∧ parseFrame ((frameBytes 3 9 (.trip .recon)).set 1 5) true = none := by decide +kernel

/-! ### The line coding (R42) -/

/-- Five equal levels are followed by an inserted one, which the receiver removes; start bit and four dominant bits are five. -/
theorem test_inserted_levels :
    insertLevels true 0 [false, false, false, false, false, true] = [false, false, false, false, false, true, true]
      ∧ insertLevels true 0 [false, true, true, true, true, true] = [false, true, true, true, true, true, false]
      ∧ insertLevels true 0 [false, false, false, false, false, true, true, true, true, false]
          = [false, false, false, false, false, true, true, true, true, true, false, false] := by decide
theorem test_levels_are_read_back :
    let f := frameBytes 3 9 (.trip .recon)
    readLevels (frameLevels f) = (f, true) ∧ readLevels (frameLevels f ++ [true, false]) = (f, true)
      ∧ (readLevels ((frameLevels f).dropLast)).2 = false ∧ (readLevels (codedPart f ++ [true, true, false, true, true, true, true])).2 = false
      ∧ (readLevels ((frameLevels f).set 5 false)).2 = false ∧ (readLevels (true :: frameLevels f)).2 = false
      ∧ arrivalOf .line2 (frameLevels f) = .frameArrival .line2 f true := by decide +kernel
theorem test_line_is_dominant_when_one_drives : lineLevel [true, false, true] = false ∧ lineLevel [true, true] = true := by decide

/-! ### Single commands -/

theorem test_sample_counts_along_x :
    (after (.sampleTimerExpiry 40) (station 2)).pos.x = 40 ∧ (after (.sampleTimerExpiry 40) (station 3)).pos.x = -40 := by
  decide +kernel
theorem test_set_position_clamps :
    let t := after .setPosition (withParams (station 1) 70000 0 0 0)
    t.pos.x = 60000 ∧ t.pos.quality = .unconfirmed ∧ t.port.result = .doneClamped := by decide +kernel
theorem test_request_run_opens_and_is_asked_again :
    let t := after .requestRun (withParams (placed 0 (station 1)) 1 1 0 0)
    t.run.state = .dispatch ∧ t.port.busy = true ∧ t.tripAsserted = false
      ∧ (after .requestRun (withParams t 1 1 0 0)).port.result = .wrongState := by decide +kernel
theorem test_call_loop_enters_the_loop_stop :
    let t := after .callLoop (placed 0 (holding 2 .service .dispatch))
    t.port.result = .done ∧ t.run.run.stops.map (·.pos) = [30150] ∧ t.tripAsserted = false := by decide +kernel
theorem test_hold_and_release :
    let t := after .hold (placed 0 (holding 4 .service .awaitGo))
    t.port.result = .done ∧ t.run.run.holds.get 1 = some false
      ∧ (after .release t).run.run.holds.get 1 = none ∧ (after .release t).run.state = .awaitGo := by decide +kernel
theorem test_drive_abort_closes_the_run :
    let t := after .abort (placed 0 (holding 1 .service .dispatch))
    t.run.state = .idle ∧ t.port.result = .done ∧ t.tripAsserted = false := by decide +kernel
theorem test_confirm_ready_needs_the_door :
    let s := placed 0 (holding 2 .service .dispatch)
    (after .confirmReady s).port.result = .wrongState
      ∧ (after .confirmReady { s with pins := { s.pins with doorClosed := true } }).car.ready = true := by decide +kernel
theorem test_add_halt_joins_the_list :
    let t := after .addHalt (withParams (placed 0 (holding 1 .inspection .dispatch)) 10000 0 0 0)
    t.port.result = .done ∧ t.run.run.stops.map (·.pos) = [10000] ∧ t.tripAsserted = false := by decide +kernel
theorem test_guard_timer_closes_without_a_drive :
    let s := placed 0 (holding 2 .service .awaitGo)
    let t := after .goGuardTimerExpiry { s with run := { s.run with run := { s.run.run with goGuardTimer := some 0 } } }
    t.run.state = .idle ∧ t.port.queue.map (fun e => (e.kind, e.value)) = [(.runClosed, 7)] := by decide +kernel
theorem test_trip_and_its_reset :
    let t := after .trip (station 4)
    t.run.state = .tripped ∧ t.outputs.safetyChain = true
      ∧ (after .resetTrip t).port.result = .refusedMoving := by decide +kernel
theorem test_superseded_command_is_reported :
    let s := after (.unknownCommand 200) { station 4 with port := { (station 4).port with busy := true, code := 4 } }
    s.port.result = .outOfRange ∧ s.port.queue.map (fun e => (e.kind, e.value)) = [(.cmdSuperseded, 4)] := by decide +kernel
theorem test_write_param_leaves_later_words :
    (after (.writeParam [7, 8]) (withParams (station 4) 1 2 3 4)).port.params = #v[7, 8, 3, 4, 0, 0] := by decide +kernel
theorem test_front_command_runs_first :
    (match step { station 4 with pending := [.writeParam [9], .trip] } with
      | .next t => t.pending == [.trip] && t.port.params.get 0 == 9
      | _ => false) = true := by decide +kernel

/-! ### States that meet the hypotheses of the statements, clause by clause -/

def peerStatus (role : Fin 8) : Status := { Status.blank with roleCode := role, profileId := (9, 9) }
def present (role : Fin 8) : PeerRecord := ⟨.present, .none, 1000, some 300, some 1000, some (peerStatus role)⟩
/-- Car A, car B and the loop station at slots 2, 3 and 4. -/
def manned (s : State) : State :=
  { s with peers := setAt (setAt (setAt s.peers 2 (present 2)) 3 (present 3)) 4 (present 4) }
/-- The consent view as the PRESENT records would have filled it. -/
def viewed (s : State) : State :=
  { s with run := { s.run with run := { s.run.run with
      consents := Vector.ofFn fun i => (s.peer i).fresh.bind Status.consentsTo } } }
def timers (s : State) : State :=
  { s with run := { s.run with run := { s.run.run with
      dispatchTimer := some 0, consentTimer := some 0, goGuardTimer := some 0 } } }
/-- A DRIVE in TRIPPED with every output as the trip asks. -/
def trippedDrive : State :=
  { station 1 with
    run := { (station 1).run with state := .tripped }, trips := { (station 1).trips with latch := some .localTrip }
    env := { (station 1).env with demand := .trip }, pending := [.readResult] }
def withMarker (s : State) : State :=
  { s with marker := { s.marker with armed := true, expected := some ⟨17, 20000, 1⟩, faults := 1 } }
def statusFrame (st : Status) : RxFrame := ⟨2, 7, .status st⟩
def frameOf (f : RxFrame) : List Byte := frameBytes f.sender f.seq f.body
def hears (s : State) (f : RxFrame) : Prop :=
  s.phase = .running ∧ parseFrame (frameOf f) true = some f ∧ f.sender ≠ s.ownSlot
    ∧ accepts (s.rx.seqMem.get f.sender) f.seq = true

theorem witness_StepTakesTheFrontCommand : trippedDrive.pending = .readResult :: [] := by decide
theorem witness_EmptyQueuePassesOneMillisecond :
    (station 1).pending = [] ∧ (station 1).phase = .running ∧ State.reset.pending = [] ∧ State.reset.phase = .inReset
      ∧ ({ (station 1).pos with sampleTimer := some 1 } : Pos).sampleTimer = some (0 + 1) := by decide

/-- One state meets every invariant of the statements, and its step answers a next state. -/
theorem witness_invariants_hold_of_a_tripped_drive :
    trippedDrive.Sound ∧ trippedDrive.tripSound ∧ trippedDrive.demandSound ∧ trippedDrive.referenceSound ∧ trippedDrive.attnSound
      ∧ trippedDrive.tripOutputsSound ∧ trippedDrive.brakesSound ∧ trippedDrive.safeOutputs
      ∧ ∃ t, step trippedDrive = .next t := by
  refine ⟨⟨by unfold State.withinCapacity; decide, by unfold State.linesSound; decide, ?_, ?_,
    by unfold State.stopsSound; decide, by unfold State.consentsSound; decide⟩, ?_, ?_, ?_, ?_, ?_, ?_, ?_, _, rfl⟩
  · exact ⟨by decide, fun h => absurd rfl h⟩
  · intro _; decide
  · unfold State.tripSound; decide
  · unfold State.demandSound; decide
  · intro _ _; exact ⟨fun _ => by decide, fun _ => by decide⟩
  · unfold State.attnSound; decide
  · intro _; exact ⟨by decide, by decide⟩
  · intro _ _; exact ⟨by decide, fun st => by cases st <;> decide⟩
  · intro h; exact absurd rfl h
theorem witness_OutputsAreSafeOutsideOperation :
    State.reset.safeOutputs ∧ ∃ t, step { State.reset with pending := [.startUp 3 1] } = .next t := ⟨fun _ => rfl, _, rfl⟩
theorem witness_OnlyItsCommandsChangeEachStore :
    (station 1).phase = .running ∧ ∃ t, exec .readResult (station 1) = .next t := ⟨rfl, _, rfl⟩
theorem witness_ReceivedFrameIsTheFrameSent :
    (Body.addStop ⟨3, 1⟩ (-(2 ^ 31))).encodable ∧ (Body.runGo ⟨3, 1⟩ 7 (2 ^ 31 - 1)).encodable
      ∧ (Body.runClose ⟨3, 1⟩ .held).encodable ∧ (Body.status (peerStatus 2)).encodable := by
  refine ⟨by unfold Body.encodable; decide, by unfold Body.encodable; decide, by unfold Body.encodable; decide, ?_⟩
  simp [Body.encodable, Status.encodable, peerStatus, Status.blank, fitsSigned, carCode]

def aHold (i : Nat) : TxFrame := ⟨i, .hold ⟨1, 1⟩, none, false⟩
def aStatus (i : Nat) : TxFrame := ⟨i, .status Status.blank, none, false⟩
/-- The place of a waiting STATUS, a queue with room, and full queues whose newest waiting frame of the largest value is less urgent,
equal and more urgent than the frame offered. -/
theorem witness_OfferedFrameFindsItsPlace :
    let full := (List.range 8).map aHold
    let one := [aHold 0, aStatus 1]
    let open' (i : Nat) : TxFrame := ⟨i, .loopCall ⟨1, 1⟩, none, false⟩
    full.length = 8 ∧ (full.Pairwise fun a b => a.body.priority ≤ b.body.priority) ∧ full = (List.range 7).map aHold ++ aHold 7 :: []
      ∧ (∀ h ∈ full, h.sending = false → h.body.priority ≤ (aHold 7).body.priority)
      ∧ (Body.trip .recon).priority < (aHold 7).body.priority ∧ (aHold 7).body.priority ≤ (aHold 9).body.priority
      ∧ (aHold 7).body.priority ≤ (open' 9).body.priority
      ∧ (one.Pairwise fun a b => a.body.priority ≤ b.body.priority) ∧ one = [aHold 0] ++ aStatus 1 :: []
      ∧ (aStatus 1).sending = false ∧ waitingStatus [aHold 0] = false ∧ waitingStatus one = true
      ∧ waitingStatus full = false ∧ one.length < 8 ∧ (aStatus 9).body.isStatus = true ∧ (aHold 9).body.isStatus = false := by
  decide
/-- The newest of two equal frames gives way, and the joining frame stands behind the frames of its own priority (R46, R47). -/
theorem test_full_queue_displaces_its_newest :
    let t : TxFrame := ⟨9, .trip .mark, none, false⟩
    ((offerQueue t ((List.range 8).map aHold)).1.map (·.ident), (offerQueue t ((List.range 8).map aHold)).2)
        = ([9, 0, 1, 2, 3, 4, 5, 6], some (aHold 7))
      ∧ (offerQueue (aHold 9) [aHold 0, aStatus 1]).1.map (·.ident) = [0, 9, 1]
      ∧ (offerQueue (aStatus 9) [aHold 0, aStatus 1]).1.map (·.ident) = [0, 9] := by decide
theorem witness_start_up_phases :
    State.reset.phase = .inReset ∧ loading.phase = .loading ∧ (station 1).phase = .running
      ∧ (∃ e, loadImage loading.straps.roleCode [] = .error e) ∧ ∃ im, loadImage loading.straps.roleCode imageBytes = .ok im := by
  refine ⟨rfl, rfl, rfl, ⟨_, rfl⟩, ?_⟩
  have h := test_image_of_three_blocks_is_valid.2.1
  cases e : loadImage 1 imageBytes with
  | ok im => exact ⟨im, e⟩
  | error x => rw [e] at h; cases h
/-- For the statements on a sample: first sample, a fast ring, a slow one with the timer stopped and with the flag set. -/
theorem witness_samples :
    let s := station 2
    let ring (xs : List Int) : State := { s with pos := { s.pos with ring := xs.map fun x => (x, 900) } }
    let t1 := after (.sampleTimerExpiry 0) s
    let t2 := after (.sampleTimerExpiry 500) (ring [0])
    let t3 := after (.sampleTimerExpiry 0) (ring [0, 0, 0, 0])
    s.phase = .running ∧ s.configFault = false ∧ s.pos.sampleTimer.isSome = true ∧ s.pos.standTimer = none
      ∧ s.pos.standstill = false ∧ t1.pos.ring.length < 2 ∧ 2 ≤ t2.pos.ring.length
      ∧ s.params.vStill < magnitude t2.pos.v ∧ t3.pos.ring = (0, 900) :: ([(0, 900), (0, 900)] ++ [(0, 1000)])
      ∧ magnitude t3.pos.v ≤ s.params.vStill ∧ t3.pos.standTimer ≠ none ∧ t3.phase = .running ∧ s.hasEstimate = true := by
  decide +kernel
theorem witness_drive_commands :
    let s := station 1
    let fixed := { s with pins := { s.pins with summit := true } }
    s.phase = .running ∧ s.isDrive = true ∧ s.configFault = false ∧ switchPin s.pins .valley = false
      ∧ switchPin s.pins (otherSwitch .valley) = false ∧ switchPin fixed.pins (otherSwitch .valley) = true
      ∧ s.run.state = .idle ∧ s.pos.quality ≠ .confirmed ∧ (station 2).isDrive = false
      ∧ (holding 1 .service .dispatch).run.state ≠ .idle := by decide
theorem witness_marker_arrivals :
    let s := withMarker (station 2)
    s.phase = .running ∧ s.isCar = true ∧ s.marker.armed = true ∧ s.marker.expected = some ⟨17, 20000, 1⟩
      ∧ (17 : BitVec 6).toNat = 17 ∧ (60 : BitVec 6).toNat = 60 ∧ s.params.suppresses (17 : BitVec 6).toNat = false
      ∧ 1 ≤ s.marker.faults ∧ s.trips.latch = none ∧ s.port.queue.length ≤ 14
      ∧ magnitude ((20000 : Int) - s.toMillimetres (s.distanceAt 0)) > s.params.tolWarn
      ∧ ({ s.params with suppress1 := 60 } : Params).suppresses 60 = true := by decide +kernel
theorem witness_detector_events :
    let s := station 4
    let p := { s with
      pins := setDetectorPin true .daHigh s.pins
      det := { s.det with daHigh := ⟨some 5, true⟩, passageA := some ⟨.daLow, 999⟩ } }
    s.phase = .running ∧ s.isRole .loop = true ∧ s.configFault = false ∧ detectorPin s.pins .daLow = false
      ∧ s.det.passage (detectorCar .daLow) = none ∧ p.det.passage (detectorCar .daLow) = some ⟨.daLow, 999⟩
      ∧ Detector.daLow ≠ .daHigh ∧ detectorPin p.pins .daHigh = true ∧ (p.det.unit .daHigh).fault = true
      ∧ (p.det.unit .daHigh).stuckTimer.isSome = true
      ∧ min 15000 (ceilDiv (magnitude (detectorPosition s.params .daHigh - detectorPosition s.params .daLow) * 1000)
          (max 1 (((1000 : Word32) - 999).toNat : Int))) > s.passageLimit .daLow .daHigh + s.params.dTrip := by decide +kernel
theorem witness_RecomputationFormsTheEstimate :
    let s := { station 4 with peerCtl := { (station 4).peerCtl with recompTimer := some 0 } }
    s.phase = .running ∧ s.isRole .loop = true ∧ s.peerCtl.recompTimer.isSome = true ∧ (station 5).isRole .wayside = true := by
  decide
theorem witness_SupervisionEstimateIsTheLeastFavourable : ([⟨.carA, 5, -3, true⟩] : List Entered) ≠ [] := by decide

theorem witness_frames_heard :
    hears (station 1) (statusFrame (peerStatus 2)) ∧ hears (station 1) ⟨2, 7, .trip .recon⟩
      ∧ hears (station 1) ⟨2, 7, .runOpen ⟨2, 1⟩ .service .up false⟩ ∧ parseFrame [1, 2] true = none
      ∧ parseFrame (frameBytes 1 7 (.trip .recon)) true = some ⟨1, 7, .trip .recon⟩ ∧ (station 1).ownSlot = 1 := by
  unfold hears; decide +kernel
/-- The memory clauses at their edges: ahead by 1 and by 127 are accepted, by 0 and by 128 are repeats. -/
theorem witness_sequence_memory :
    let s := { station 1 with rx := { (station 1).rx with seqMem := setAt (station 1).rx.seqMem 2 (some 200) } }
    s.rx.seqMem.get 2 = some 200 ∧ (station 1).rx.seqMem.get 2 = none ∧ ((201 : Byte) - 200).toNat = 1
      ∧ ((71 : Byte) - 200).toNat = 127 ∧ ((200 : Byte) - 200).toNat = 0 ∧ ((72 : Byte) - 200).toNat = 128 := by decide
/-- The exclusion clauses of an accepted STATUS: excluded by profile, by the own role, by a live claim, present. -/
theorem witness_AcceptedStatusRenewsTheRecord :
    let s := manned (station 1)
    (peerStatus 0).role = none ∧ (peerStatus 1).role = some .drive ∧ s.role = some .drive
      ∧ (s.peer 3).liveClaim .carB = true ∧ (peerStatus 3).role = some .carB
      ∧ (∀ j : Slot, j ≠ 2 → j ≠ s.ownSlot → (s.peer j).liveClaim .carA = false) ∧ s.role ≠ some .carA
      ∧ (peerStatus 2).profileId = s.loader.profileId ∧ s.configFault = false ∧ (peerStatus 2).fault = false := by decide
theorem witness_RunOpenContention :
    let s := manned (station 1)
    let d := manned (holding 1 .service .dispatch)
    s.configFault = false ∧ s.listening = false ∧ (s.peer 2).state = .present ∧ s.run.state = .idle
      ∧ d.runId = some ⟨1, 1⟩ ∧ d.run.state = .dispatch ∧ (0 : Slot) < 1 ∧ (1 : Slot) < 2
      ∧ ((2 : Byte) - 1).toNat = 1 ∧ ((128 : Byte) - 1).toNat = 127 ∧ ((129 : Byte) - 1).toNat = 128 := by decide
theorem witness_line_events :
    let g : TxFrame := ⟨0, .status Status.blank, some 3, true⟩
    let s := { station 1 with line1 := ⟨true, true, some 0, [aHold 0]⟩, line2 := ⟨true, true, some 5, [g, aStatus 1]⟩ }
    s.phase = .running ∧ (s.line .line2).queue = [] ++ g :: [aStatus 1] ∧ g.sending = true
      ∧ (∀ h ∈ ([] : List TxFrame) ++ [aStatus 1], h.sending = false) ∧ g.body.isStatus = true
      ∧ waitingStatus ([] ++ [aStatus 1]) = true ∧ waitingStatus ([] : List TxFrame) = false
      ∧ (s.line .line1).idle = true ∧ (s.line .line1).queue = aHold 0 :: [] ∧ (∀ h ∈ [aHold 0], h.sending = false)
      ∧ (∃ h ∈ (s.line .line2).queue, h.sending = true) ∧ (s.line .line1).silence.isSome = true
      ∧ (s.line .line1).up = true ∧ timerRuns (s.line .line2).silence = true := by decide
theorem witness_peer_timers :
    let s := manned (station 1)
    let st (x : RecState) : State := s.setPeer 2 { present 2 with state := x }
    s.phase = .running ∧ (s.peer 2).staleTimer.isSome = true ∧ (s.peer 2).state = .present
      ∧ ((st .stale).peer 2).lostTimer.isSome = true ∧ ((st .stale).peer 2).state = .stale
      ∧ ((st .excluded).peer 2).state = .excluded := by decide
theorem witness_status_timer :
    let s := { station 1 with peerCtl := { (station 1).peerCtl with statusTimer := some 0 } }
    let l := { station 1 with loader := { (station 1).loader with listenTimer := some 0 } }
    l.phase = .running ∧ l.listening = true ∧ s.phase = .running ∧ s.listening = false ∧ s.peerCtl.statusTimer.isSome = true := by
  decide
/-- Loads at the edges of the range: below, 0, max_load, above. -/
theorem witness_LoadIsTakenClampedAndAges :
    let s := { station 2 with car := { (station 2).car with loadTimer := some 0 } }
    let v (x : Int) : Int := ((withParams s x 0 0 0).port.params.get 0).toInt
    s.phase = .running ∧ s.isCar = true ∧ s.configFault = false ∧ (station 1).isCar = false ∧ v (-1) < 0 ∧ v 0 = 0
      ∧ v 12000 = s.params.maxLoad ∧ s.params.maxLoad < v 12001 ∧ s.car.loadTimer.isSome = true := by decide +kernel

/-- REQUEST_RUN: each test failed in turn, and all passed; W on either side. -/
theorem witness_RequestRunIsTestedInOrder :
    let s := withParams (placed 60000 (station 1)) 1 2 0 0
    let near := withParams (placed 150 (station 1)) 1 2 0 0
    let past := withParams (placed 151 (station 1)) 1 2 0 0
    let badWords := withParams s 2 1 1 0
    s.phase = .running ∧ (s.port.params.get 0).toNat = 1 ∧ (s.port.params.get 1).toNat = 2 ∧ (s.port.params.get 2).toNat = 0
      ∧ (badWords.port.params.get 0).toNat = 2 ∧ (badWords.port.params.get 2).toNat = 1
      ∧ s.configFault = false ∧ s.listening = false ∧ s.run.state = .idle ∧ s.trips.latch = none
      ∧ (∀ i, s.trips.origins.get i = none) ∧ s.sup.est ≠ none ∧ (station 1).sup.est = none ∧ trippedDrive.run.state = .tripped
      ∧ near.xSup ≤ near.params.W ∧ past.params.W < past.xSup ∧ (holding 1 .service .dispatch).run.state = .dispatch := by
  decide +kernel
/-- A line at rest, as the statements on commands in the waiting states ask, and the hypotheses of their clauses. -/
def bare : Image := ⟨params, []⟩
def atRest (s : State) : State := { s with loader := { s.loader with image := some bare } }
theorem atRest_of_bare (s : State) (image : s.loader.image = some bare) (untripped : s.tripAsserted = false) (v : s.vSup = 0)
    (entered : s.sup.entered = []) (all : s.enteredAll = []) (r : ∀ i, s.profile.restrictions.get i = none) : s.AtRest := by
  have p : s.params = params := by simp [State.params, image, bare]
  refine ⟨untripped, v, by simp [entered, all], ?_, ?_, ?_, ?_, fun k => ?_, fun i x h => by simp [r i] at h⟩
  · rw [all, p]; decide +kernel
  · rw [p]; decide +kernel
  · rw [p]; decide +kernel
  · rw [p]; decide +kernel
  · simp [State.block, State.blocks, image, bare, blockAt]
theorem witness_AtRest :
    (atRest (placed 0 (holding 1 .inspection .dispatch))).AtRest ∧ (atRest (placed 0 (station 1))).AtRest
      ∧ (atRest (placed 0 (holding 2 .service .dispatch))).AtRest ∧ (atRest (placed 0 (holding 2 .service .held))).AtRest
      ∧ (atRest (placed 0 (timers (holding 1 .service .awaitGo)))).AtRest
      ∧ (atRest (placed 0 (timers (holding 2 .service .dispatch)))).AtRest := by
  refine ⟨?_, ?_, ?_, ?_, ?_, ?_⟩ <;>
    exact atRest_of_bare _ rfl (by decide) (by decide) (by decide) (by decide +kernel) (by decide)
/-- ADD_HALT: the halt at both edges of the terminal allowance, a near entry at 2W, a full list. -/
theorem witness_AddHaltIsTestedInOrder :
    let s := placed 0 (holding 1 .inspection .dispatch)
    let halt (x : Int) : Bool := decide (0 < s.dirSgn * (x - s.xSup) ∧ 0 < s.dirSgn * (s.terminal - x)
      ∧ s.params.allowTerminal ≤ x ∧ x ≤ s.params.L - s.params.allowTerminal) && !(s.block (s.blockOf x)).noHalt
    s.phase = .running ∧ s.configFault = false ∧ s.run.state = .dispatch ∧ s.isKind .service = false ∧ s.sup.est ≠ none
      ∧ [2999, 3000, 57000, 57001].map halt = [false, true, true, false]
      ∧ magnitude ((10300 : Int) - 10000) ≤ 2 * s.params.W ∧ ¬magnitude ((10301 : Int) - 10000) ≤ 2 * s.params.W
      ∧ s.run.run.stops.length < 8 ∧ 8 ≤ (List.replicate 8 (⟨1, .halt, 1, .pending⟩ : StopEntry)).length
      ∧ (station 1).run.state = .idle ∧ (holding 1 .service .dispatch).isKind .service = true
      ∧ (holding 1 .inspection .dispatch).sup.est = none ∧ (holding 1 .inspection .held).run.state = .held := by decide +kernel
/-- CALL_LOOP: the states of its table, the decisions, and the loop at W and just beyond. -/
theorem witness_CallLoopIsTestedInOrder :
    let s := placed 0 (holding 2 .service .dispatch)
    let m := holding 2 .service .moving
    s.phase = .running ∧ s.run.state = .dispatch ∧ s.isKind .inspection = false ∧ s.sup.est ≠ none ∧ s.runDir = some .up
      ∧ s.params.W < Dir.up.sgn * (s.params.pLoop - s.xSup)
      ∧ (let n := placed 30000 s; Dir.up.sgn * (n.params.pLoop - n.xSup) ≤ n.params.W)
      ∧ m.run.state = .moving ∧ m.run.run.decision = .undecided ∧ m.run.run.abortPending = false
      ∧ (∀ e ∈ m.run.run.stops, ¬(e.kind = .loop ∧ e.status = .reached))
      ∧ (⟨30150, .loop, 8000, .reached⟩ : StopEntry).kind = .loop ∧ (holding 2 .inspection .held).isKind .inspection = true
      ∧ (holding 2 .service .arrived).run.state = .arrived ∧ (station 2).run.state = .idle
      ∧ trippedDrive.run.state = .tripped ∧ trippedDrive.configFault = false := by decide +kernel
theorem witness_HoldHoldsTheLine :
    (holding 4 .service .moving).run.state = .moving ∧ (holding 4 .service .moving).run.run.abortPending = false
      ∧ (holding 4 .service .dwell).run.state = .dwell ∧ (holding 4 .service .arrived).run.state = .arrived
      ∧ (holding 4 .service .arrived).configFault = false ∧ (station 4).run.state = .idle := by decide
theorem witness_ReleaseRemovesTheOwnHold :
    let s := holding 4 .service .stopping
    let h := { s with run := { s.run with run := { s.run.run with holds := setAt s.run.run.holds 1 (some false) } } }
    h.phase = .running ∧ h.configFault = false ∧ h.run.run.holds.get h.ownSlot ≠ none ∧ h.run.state = .stopping
      ∧ h.run.run.abortPending = false ∧ (∀ j, j ≠ h.ownSlot → h.run.run.holds.get j = none)
      ∧ s.run.run.holds.get s.ownSlot = none ∧ s.isDrive = false ∧ (holding 4 .service .dwell).inMotion = false := by decide
theorem witness_AbortEndsTheRun :
    (holding 1 .service .held).isDrive = true ∧ (holding 1 .service .held).inMotion = false
      ∧ (holding 1 .service .moving).inMotion = true ∧ (holding 2 .service .moving).isDrive = false
      ∧ (holding 2 .service .moving).run.state ≠ .tripped ∧ (holding 1 .service .held).port.queue.length ≤ 10 := by decide
theorem witness_ConfirmReadySetsTheLatch :
    let s := holding 2 .service .dispatch
    let c := { s with pins := { s.pins with doorClosed := true } }
    c.isCar = true ∧ c.configFault = false ∧ c.run.state = .dispatch ∧ c.pins.doorClosed = true ∧ s.pins.doorClosed = false
      ∧ (holding 1 .service .dispatch).isCar = false := by decide
/-- The waiting timers: window with and without the roles filled, and the four causes of R101. -/
theorem witness_WaitingTimersCloseWindowAndRun :
    let d := timers (holding 1 .service .dispatch)
    let a := timers (holding 1 .service .awaitGo)
    let agrees (role : Fin 8) (n : Nat) : PeerRecord :=
      { present role with contents := some { peerStatus role with
          runId := some ⟨1, 1⟩, consent := some n, runState := .awaitGo } }
    let consenting (n : Nat) : State := viewed
      { placed 0 a with
        peers := setAt (setAt (setAt a.peers 2 (agrees 2 0)) 3 (agrees 3 n)) 4 (agrees 4 0)
        pos := { a.pos with quality := .confirmed } }
    d.phase = .running ∧ d.run.state = .dispatch ∧ d.run.run.dispatchTimer.isSome = true ∧ d.isDrive = true
      ∧ d.rolesFilled = false ∧ (timers (holding 2 .service .dispatch)).isDrive = false ∧ a.run.state = .awaitGo
      ∧ a.run.run.consentTimer.isSome = true ∧ a.run.run.goGuardTimer.isSome = true ∧ (manned a).rolesFilled = true
      ∧ (∃ c ∈ (manned a).neededConsents, (manned a).consentNamesRun c = false)
      ∧ (consenting 3).rolesFilled = true ∧ (∀ c ∈ (consenting 3).neededConsents, (consenting 3).consentNamesRun c = true)
      ∧ (∃ c ∈ (consenting 3).neededConsents, (consenting 3).consentMatches c = false)
      ∧ (consenting 0).rolesFilled = true ∧ (∀ c ∈ (consenting 0).neededConsents, (consenting 0).consentNamesRun c = true)
      ∧ (∀ c ∈ (consenting 0).neededConsents, (consenting 0).consentMatches c = true) := by decide +kernel
theorem witness_door_and_brake_feedback :
    let s := holding 2 .service .moving
    let c := { s with pins := { s.pins with doorClosed := true } }
    let d := station 1
    let e := { d with brakes := { d.brakes with stage4 := ⟨false, some 0⟩, ebTimer := some 0 } }
    c.phase = .running ∧ c.isCar = true ∧ c.pins.doorClosed = true ∧ c.inMotion = true ∧ c.trips.latch = none
      ∧ s.pins.doorClosed = false ∧ d.isDrive = true ∧ (e.brakes.unit .w4).timer.isSome = true
      ∧ (e.brakes.unit .w4).failed = false ∧ e.brakes.ebTimer.isSome = true ∧ e.pins.brakeFeedback = false
      ∧ e.pins.emergencyStop = false := by decide
theorem witness_ResetTripIsTestedInOrder :
    let s := { trippedDrive with pos := { trippedDrive.pos with standstill := true } }
    let r := { s with trips := { s.trips with latch := some .recon } }
    s.phase = .running ∧ s.trips.latch = some .localTrip ∧ s.pins.emergencyStop = false ∧ s.lineStandstill = true
      ∧ s.isDrive = true ∧ s.pos.quality = .unknown ∧ s.sup = ⟨none, [], 0⟩ ∧ s.enteredAll = [] ∧ 0 ≤ s.params.tolTrip
      ∧ (∀ i, s.trips.origins.get i = none) ∧ s.run.state = .tripped ∧ r.trips.latch = some .recon
      ∧ trippedDrive.lineStandstill = false ∧ (station 1).trips.latch = none := by decide +kernel
/-- The cases of R164: a trip, SERVICE, MOVING, parked and degraded, each with outputs that follow it. -/
theorem witness_BrakeCasesOfTheDrive :
    let s := station 1
    let outs (eb on : Bool) : Outputs := { Outputs.safe with emergencyBrake := eb, stage1 := on, stage2 := on, stage4 := on, stage8 := on }
    let service := { s with env := { s.env with demand := .service }, outputs := outs false true }
    let moving := { holding 1 .service .moving with outputs := outs false false }
    let parked := { s with
      brakes := { s.brakes with parkRequested := some 13 }
      outputs := { outs false true with stage2 := false } }
    let degraded := { s with brakes := { oneFailed .w4 with parkDegraded := true }, outputs := outs true true }
    (service.brakesSound ∧ moving.brakesSound ∧ parked.brakesSound ∧ degraded.brakesSound)
      ∧ service.combinedDemand = .service ∧ moving.combinedDemand = .none ∧ moving.run.state = .moving
      ∧ parked.brakes.parkRequested = some 13 ∧ degraded.brakes.parkDegraded = true
      ∧ (degraded.brakes.unit .w4).failed = true ∧ degraded.tripAsserted = false ∧ trippedDrive.tripAsserted = true := by
  refine ⟨⟨fun _ _ => ⟨?_, fun st => ?_⟩, fun _ _ => ⟨?_, fun st => ?_⟩, fun _ _ => ⟨?_, fun st => ?_⟩,
    fun _ _ => ⟨?_, fun st => ?_⟩⟩, ?_⟩ <;> first | (cases st <;> decide) | decide
theorem witness_level_and_distance_clauses :
    (∃ level, State.reset.brakes.achievable level = true ∧ (15 : Int) ≤ (level : Int))
      ∧ (∀ level, State.reset.brakes.achievable level = true → (level : Int) < 16) ∧ (0 : Int) < 6000 ∧ (0 : Int) < 1348
      ∧ (station 1).params.aFloor ≤ (station 1).params.aCap := by
  refine ⟨⟨15, by decide, by decide⟩, fun l h => ?_, by decide, by decide, by decide +kernel⟩
  simp [Brakes.achievable] at h; omega
/-- SET_RESTRICTION: words out of range, removal, an entry, and clamping at N and v_creep. -/
theorem witness_SetRestrictionSetsTheOwnEntry :
    let word (x : Int) : Int := ((withParams (station 4) x 0 0 0).port.params.get 0).toInt
    (station 4).phase = .running ∧ (station 4).configFault = false ∧ word 1 = 1 ∧ word 2 = 2 ∧ word 3 = 3 ∧ word 0 = 0
      ∧ word (-1) = -1 ∧ ((station 4).blocks.length : Int) = 3 ∧ (station 4).params.vCreep = 300
      ∧ (station 4).params.vMax = 6000 := by decide +kernel
theorem witness_port_commands :
    let s := { station 4 with port := { (station 4).port with busy := true, queue := [⟨.held, 1, none, none, 0, 0⟩] } }
    s.phase = .running ∧ 1 ≤ [(7 : Word32)].length ∧ [(1 : Word32), 2, 3, 4, 5, 6].length ≤ 6 ∧ 13 < (14 : Byte).toNat
      ∧ s.port.busy = true ∧ s.port.queue.length ≤ 15 ∧ s.port.queue = ⟨.held, 1, none, none, 0, 0⟩ :: []
      ∧ (station 4).port.queue = [] ∧ (0x03000002 : Word32).toNat / 16777216 = 3 ∧ (0x03000002 : Word32).toNat % 16777216 = 2
      ∧ 2 < s.blocks.length ∧ (0x02000008 : Word32).toNat % 16777216 = 8 := by decide +kernel

/-! ### Frames taken and ignored -/

/-- A frame of slot 2 that its layout carries reaches its block at a station of these tests. -/
theorem accepted (b : Body) (s : State) (running : s.phase = .running) (slot : s.ownSlot = 1) (memory : s.rx.seqMem.get 2 = none)
    (read : parseFrame (frameOf ⟨2, 7, b⟩) true = some ⟨2, 7, b⟩) : s.Accepts (frameOf ⟨2, 7, b⟩) true ⟨2, 7, b⟩ :=
  ⟨running, read, by rw [slot]; exact (by decide : (2 : Slot) ≠ 1), by rw [memory]; rfl⟩

/-- A frame of slot 2 arrives. -/
def hear (b : Body) (s : State) : State := after (.frameArrival .line1 (frameOf ⟨2, 7, b⟩) true) s

theorem test_hold_and_release_frames :
    let t := hear (.hold ⟨1, 1⟩) (placed 0 (holding 4 .service .dispatch))
    t.run.state = .awaitGo ∧ t.run.run.holds.get 2 = some false ∧ t.tripAsserted = false
      ∧ (after (.frameArrival .line2 (frameOf ⟨2, 8, .release ⟨1, 1⟩⟩) true) t).run.run.holds.get 2 = none := by decide +kernel
theorem test_run_go_places_the_drives_target :
    let s := { holding 2 .service .awaitGo with
      peers := setAt (station 2).peers 2 (present 1), pins := { PlantPins.none with doorClosed := true } }
    let listed (xs : List Int) : State := { s with run := { s.run with run := { s.run.run with
      stops := xs.map (fun x => ⟨x, .halt, 6000, .pending⟩) ++ [⟨60000, .terminal, 3000, .pending⟩] } } }
    let go (xs : List Int) : State := hear (.runGo ⟨1, 1⟩ 0 20000) (listed xs)
    (go [20000]).run.run.stops = (listed [20000]).run.run.stops ∧ (go []).run.run.stops.map (·.pos) = [20000, 60000]
      ∧ (go [20200]).currentStop = some (20000, 6000) ∧ (go [20200]).run.run.stops.map (·.pos) = [20200, 60000]
      ∧ (go [19800]).currentStop = some (20000, 3000) ∧ (go []).run.state = .moving := by decide +kernel
theorem test_contention_is_announced :
    let s := manned { station 1 with run := ⟨.dispatch, 1, { RunRecord.empty with hdr := some ⟨⟨2, 1⟩, .service, .up⟩ }⟩ }
    let t := hear (.runOpen ⟨1, 9⟩ .service .down false) { s with own := ⟨s.formStatus, 900⟩ }
    t.run.state = .dispatch ∧ t.runId = some ⟨1, 9⟩ ∧ t.own.formedAt = 1000 ∧ t.line1.queue ≠ [] := by decide +kernel

theorem witness_frames_on_the_run :
    let id : RunId := ⟨1, 1⟩
    ∀ b ∈ [Body.addStop id 10000, .loopCall id, .hold id, .release id, .abort id, .runGo id 0 60000, .runClose id .aborted],
      ∀ s ∈ [manned (placed 0 (holding 2 .inspection .dispatch)), manned (placed 0 (holding 2 .service .dispatch)),
          manned (holding 2 .service .moving), manned (holding 1 .service .held), manned (holding 4 .service .stopping),
          manned (station 1), manned (holding 1 .service .arrived), trippedDrive],
        parseFrame (frameOf ⟨2, 7, b⟩) true = some ⟨2, 7, b⟩ ∧ s.phase = .running ∧ s.ownSlot = 1 ∧ s.rx.seqMem.get 2 = none
          ∧ s.takesRunFrames = true := by decide +kernel
/-- ADD_STOP: taken at 10000, merged at 2W and not beyond; every way to be ignored. -/
theorem witness_AddStop :
    let s := placed 0 (holding 2 .inspection .dispatch)
    let full := List.replicate 8 (⟨1, .halt, 1, .pending⟩ : StopEntry)
    s.runId = some ⟨1, 1⟩ ∧ s.run.state = .dispatch ∧ s.isKind .inspection = true ∧ s.sup.est ≠ none ∧ s.holdsEmpty = true
      ∧ s.run.run.stops.length < 8 ∧ ¬full.length < 8 ∧ (manned s).peers.get 2 = present 2 ∧ (present 2).known = true
      ∧ s.runId ≠ some ⟨1, 2⟩ ∧ (holding 2 .inspection .awaitGo).run.state ≠ .dispatch
      ∧ (holding 2 .service .dispatch).isKind .inspection = false ∧ (holding 2 .inspection .dispatch).sup.est = none := by
  decide +kernel
/-- LOOP_CALL: the run of another kind, the loop not ahead, decided, in DWELL; taken in DISPATCH and in motion. -/
theorem witness_LoopCall :
    let s := placed 0 (holding 2 .service .dispatch)
    let near := placed 30000 (holding 2 .service .dispatch)
    let m := holding 2 .service .moving
    let decided := { m with run := { m.run with run := { m.run.run with decision := .pass } } }
    s.runId = some ⟨1, 1⟩ ∧ s.isKind .service = true ∧ s.runDir = some .up ∧ s.sup.est ≠ none
      ∧ s.params.W < Dir.up.sgn * (s.params.pLoop - s.xSup) ∧ s.holdsEmpty = true ∧ (addLoopEntry s).hasLoopEntry = true
      ∧ ¬near.params.W < Dir.up.sgn * (near.params.pLoop - near.xSup) ∧ m.run.state = .moving
      ∧ m.run.run.decision = .undecided ∧ m.run.run.abortPending = false ∧ decided.run.run.decision ≠ .undecided
      ∧ (holding 2 .service .dwell).run.state ≠ .dispatch := by decide +kernel
theorem witness_hold_release_abort_frames :
    let d := manned (holding 1 .service .held)
    let f := holding 4 .service .stopping
    d.runId = some ⟨1, 1⟩ ∧ d.isDrive = true ∧ d.rolesFilled = true ∧ d.run.state = .held ∧ d.inMotion = false
      ∧ (∀ j : Slot, j ≠ 2 → d.run.run.holds.get j = none) ∧ d.run.run.abortPending = false ∧ d.listening = false
      ∧ f.run.state = .stopping ∧ f.isDrive = false ∧ (∀ j : Slot, j ≠ 2 → f.run.run.holds.get j = none)
      ∧ (holding 1 .service .moving).inMotion = true ∧ (holding 4 .service .dispatch).run.state = .dispatch
      ∧ (holding 4 .service .arrived).run.state = .arrived ∧ (station 4).runId ≠ some ⟨1, 1⟩
      ∧ (holding 4 .service .held).inMotion = false := by decide +kernel
/-- RUN_GO and RUN_CLOSE of a drive at slot 2: taken, and ignored at the DRIVE, in TRIPPED, in ARRIVED and in IDLE. -/
theorem witness_RunGo_and_RunClose :
    let s := { placed 100 (holding 2 .service .awaitGo) with peers := setAt (station 2).peers 2 (present 1) }
    let busy := { s with port := { s.port with busy := true, code := 1 } }
    (s.peer 2).knownDrive = true ∧ s.isDrive = false ∧ s.run.state = .awaitGo ∧ s.runId = some ⟨1, 1⟩ ∧ s.holdsEmpty = true
      ∧ s.run.run.abortPending = false ∧ s.tripAsserted = false ∧ busy.port.busy = true ∧ busy.port.code = 1
      ∧ s.sup.est = some (100, 0) ∧ s.runDir = some .up ∧ magnitude (100 - s.startOf (s.blockOf 100)) ≤ s.params.W
      ∧ ¬magnitude (151 - s.startOf (s.blockOf 151)) ≤ s.params.W ∧ s.port.queue.length ≤ 13
      ∧ (∀ e, s.firstPending = some e → e.pos ≠ 60000)
      ∧ (station 1).isDrive = true ∧ trippedDrive.tripAsserted = true ∧ (holding 2 .service .arrived).run.state = .arrived
      ∧ (station 2).run.state = .idle := by decide +kernel
theorem witness_AtRest_with_peers :
    (atRest (manned (placed 0 (holding 2 .inspection .dispatch)))).AtRest ∧ (atRest (manned (placed 0 (holding 4 .service .held)))).AtRest
      ∧ (atRest (manned (station 1))).AtRest ∧ (atRest (manned (placed 0 (holding 2 .service .awaitGo)))).AtRest := by
  refine ⟨?_, ?_, ?_, ?_⟩ <;>
    exact atRest_of_bare _ rfl (by decide) (by decide) (by decide) (by decide +kernel) (by decide)
/-- One frame brings its line UP and takes the silent other line DOWN; two frames with the own slot. -/
theorem witness_line_up_and_own_slot :
    let s := { station 1 with line1 := ⟨false, false, none, []⟩, line2 := ⟨false, true, none, []⟩ }
    parseFrame (frameBytes 2 7 (.trip .recon)) true = some ⟨2, 7, .trip .recon⟩ ∧ (s.line .line1).up = false
      ∧ (s.line (otherLine .line1)).up = true ∧ timerRuns (s.line (otherLine .line1)).silence = false
      ∧ s.port.queue.length ≤ 14 ∧ parseFrame (frameBytes 1 7 (.hold ⟨1, 1⟩)) true = some ⟨1, 7, .hold ⟨1, 1⟩⟩
      ∧ parseFrame (frameBytes 1 8 (.trip .recon)) true = some ⟨1, 8, .trip .recon⟩ ∧ s.ownSlot = 1
      ∧ s.rx.slotConflict = false := by decide +kernel
/-- Section 11.2: one field out of its codes at a time, each with a right check. -/
theorem test_frames_out_of_their_codes_are_invalid :
    let sealed (bs : List Byte) : List Byte := bs ++ checkBytes bs
    let cut (b : Body) (i : Nat) (x : Byte) : List Byte :=
      sealed (((frameBytes 3 9 b).take ((frameBytes 3 9 b).length - 2)).set i x)
    parseFrame (cut (.trip .recon) 4 9) true = some ⟨3, 9, .trip .config⟩
      ∧ parseFrame (cut (.trip .recon) 4 10) true = none ∧ parseFrame (cut (.trip .recon) 4 0) true = none
      ∧ parseFrame (cut (.hold ⟨3, 1⟩) 4 8) true = none ∧ parseFrame (cut (.runOpen ⟨3, 7⟩ .service .up true) 6 3) true = none
      ∧ parseFrame (cut (.runOpen ⟨3, 7⟩ .service .up true) 8 2) true = none
      ∧ parseFrame (cut (.runGo ⟨3, 7⟩ 7 0) 6 8) true = none ∧ parseFrame (cut (.runClose ⟨3, 7⟩ .aborted) 6 7) true = none
      ∧ parseFrame (cut (.status (peerStatus 2)) 20 1) true = none
      ∧ parseFrame (cut (.trip .recon) 1 0xb0) true = none ∧ parseFrame (cut (.trip .recon) 3 2) true = none := by decide +kernel

/-! ### Samples, markers, fixes and traversals -/

/-- A DRIVE in MOVING that stands `short` before its TERMINAL. -/
def arriving (short : Int) (still : Bool) : State :=
  let s := holding 1 .service .moving
  { s with
    pos := { s.pos with um := 1000 * (60000 - short), x := 60000 - short, standstill := still, ring := [(60000 - short, 900)] }
    run := { s.run with run := { s.run.run with decision := .pass, stops := [⟨60000, .terminal, 3000, .pending⟩] } } }
/-- The end of a leg: at W and standing, beyond W, and moving. -/
theorem test_leg_ends_within_W :
    let t (short : Int) (still : Bool) : State := after (.sampleTimerExpiry 0) (arriving short still)
    ((t 150 true).run.state = .arrived ∨ (t 150 true).run.state = .idle) ∧ (t 150 true).tripAsserted = false
      ∧ (t 151 true).run.state = .moving ∧ (t 150 false).run.state = .moving
      ∧ (t 150 true).port.queue.any (fun e => e.kind == .legReached) = true := by decide +kernel
theorem witness_leg_end :
    let s := arriving 150 true
    s.phase = .running ∧ s.configFault = false ∧ s.pos.sampleTimer.isSome = true ∧ s.isDrive = true ∧ s.run.state = .moving
      ∧ s.run.run.decision ≠ .undecided ∧ s.firstPending = some ⟨60000, .terminal, 3000, .pending⟩
      ∧ s.currentStop = some (60000, 3000) ∧ s.holdsEmpty = true ∧ s.run.run.abortPending = false := by decide +kernel
/-- The loop decision at its distance and one millimetre before it; with and without the designator. -/
theorem witness_loop_decision :
    let s := holding 1 .service .moving
    let at' (x : Int) (wanted : Bool) : State := { s with
      pos := { s.pos with um := 1000 * x, x := x }, ref := ⟨0, some ⟨60000, 0, 300, 0⟩⟩
      run := { s.run with run := { s.run.run with designator := wanted, stops := [⟨60000, .terminal, 3000, .pending⟩] } } }
    let t (x : Int) (wanted : Bool) : State := after (.sampleTimerExpiry 0) (at' x wanted)
    let far := s.params.sCreep + s.params.mDec
    (t (30150 - far) true).run.run.decision = .stop ∧ (t (30150 - far) false).run.run.decision = .pass
      ∧ (t (30149 - far) true).run.run.decision = .undecided ∧ (t 30000 true).run.run.decision = .pass
      ∧ (t (30150 - far) true).run.run.stops.map (·.pos) = [30150, 60000]
      ∧ (at' 0 true).run.run.decision = .undecided ∧ (at' 0 true).ref.shown = some ⟨60000, 0, 300, 0⟩ := by decide +kernel
/-- The expectation ahead of a reference in both directions, and none past the last marked boundary (R32). -/
theorem test_next_expected_marker :
    let s := holding 2 .service .moving
    let d := { s with run := { s.run with run := { s.run.run with hdr := some ⟨⟨1, 1⟩, .service, .down⟩ } } }
    s.nextExpected 0 = some ⟨17, 20000, 1⟩ ∧ s.nextExpected 20000 = some ⟨41, 40000, 2⟩ ∧ s.nextExpected 40000 = none
      ∧ d.nextExpected 60000 = some ⟨41, 40000, 1⟩ ∧ d.nextExpected 20000 = none ∧ (station 2).nextExpected 0 = none := by
  decide +kernel
/-- A car in MOVING with its marker monitor armed, `x` mm from the valley at its next sample. -/
def nearMarker (x : Int) (faults : Nat) : State :=
  let s := withMarker (holding 2 .service .moving)
  { s with pos := { s.pos with um := 1000 * x }, marker := { s.marker with faults := faults } }
/-- A miss: at the window, one beyond it, and beyond the next boundary's window as well. -/
theorem witness_marker_miss :
    let t (x : Int) (faults : Nat) : State := after (.sampleTimerExpiry 0) (nearMarker x faults)
    let w := params.markWindow
    (nearMarker 0 0).runDir = some .up ∧ (nearMarker 0 0).marker.expected = some ⟨17, 20000, 1⟩ ∧ (nearMarker 0 0).marker.armed = true
      ∧ (t (20000 + w) 0).marker.faults = 0 ∧ (t (20001 + w) 0).marker.faults = 1
      ∧ (t (20001 + w) 0).marker.expected = some ⟨41, 40000, 2⟩ ∧ (t (40001 + w) 0).marker.faults = 2 := by decide +kernel
theorem test_second_miss_trips :
    let t (x : Int) (faults : Nat) : State := after (.sampleTimerExpiry 0) (nearMarker x faults)
    (t (40001 + params.markWindow) 0).trips.latch = some .mark := by decide +kernel
theorem test_miss_after_a_fault_trips :
    let t (x : Int) (faults : Nat) : State := after (.sampleTimerExpiry 0) (nearMarker x faults)
    (t (20001 + params.markWindow) 1).trips.latch = some .mark := by decide +kernel
/-- The fix of R39: at tol_warn, above it, at tol_trip and above it; a car of unknown quality. -/
theorem witness_detector_fix :
    let at' (x : Int) (q : Quality) : State := { station 4 with
      profile := { (station 4).profile with proof := 7 }
      peers := setAt (station 4).peers 2 { present 2 with contents := some { peerStatus 2 with x := x, quality := q } } }
    let t (x : Int) (q : Quality) : State := after (.detectorActive .daLow) (at' x q)
    let d := detectorPosition params .daLow
    ((at' 0 .confirmed).presentWith (detectorCar .daLow)).isSome = true
      ∧ (t (d + params.tolWarn) .confirmed).profile.proof = 7 ∧ (t (d + params.tolWarn + 1) .confirmed).profile.proof = 5
      ∧ (t (d + params.tolTrip) .confirmed).trips.latch = none
      ∧ (t (d + params.tolTrip + 1) .confirmed).trips.latch = some .recon ∧ (t 0 .unknown).profile.proof = 7
      ∧ (t 0 .unknown).trips.latch = none := by decide +kernel
/-- A traversal that goes on, is completed clean and unclean, and one opened at a crossing. -/
theorem witness_traversals :
    let at' (x : Int) (tr : Option Traversal) : State :=
      let s := placed 10000 (holding 4 .service .moving)
      { s with
        peerCtl := { s.peerCtl with recompTimer := some 0 }, profile := { s.profile with traversal := tr }
        peers := setAt s.peers 2 { present 1 with contents := some { peerStatus 1 with x := x, quality := .confirmed } } }
    let t (x : Int) (tr : Option Traversal) : State := after .recomputationTimerExpiry (at' x tr)
    (formSup (some .up) (at' 15000 none).enteredAll).est = some (15000, 0) ∧ (at' 0 none).runDir = some .up
      ∧ (formSup (some .up) (at' 15000 none).enteredAll).spread ≤ (at' 0 none).params.tolWarn
      ∧ (t 15000 (some ⟨0, 0, true, 3⟩)).profile.traversal = some ⟨0, 0, true, 3⟩
      ∧ (t 20000 (some ⟨0, 0, true, 3⟩)).profile.proof = 1
      ∧ (t 20000 (some ⟨0, 0, false, 3⟩)).profile.proof = 0
      ∧ (t 20000 none).profile.traversal = some ⟨1, 20000, true, 0⟩ ∧ (t 15000 none).profile.traversal = none := by decide +kernel

/-! ### Peers lost, STATUS at once, doors and trips -/

/-- R149: a required role lost from STALE, in DISPATCH, in motion and in ARRIVED; a role that is not required. -/
theorem witness_implicit_hold :
    let at' (r : Fin 8) (x : RecState) (st : RunState) : State :=
      (placed 0 (holding 1 .service st)).setPeer 2 { present r with state := x }
    let t (r : Fin 8) (x : RecState) (st : RunState) : State := after (.lostTimerExpiry 2) (at' r x st)
    (t 2 .stale .dispatch).run.run.holds.get 2 = some true ∧ (t 2 .excluded .dispatch).run.run.holds.get 2 = none
      ∧ (t 5 .stale .dispatch).run.run.holds.get 2 = none ∧ (t 2 .stale .arrived).run.run.holds.get 2 = none
      ∧ (peerStatus 2).role = some .carA ∧ (peerStatus 5).role = some .wayside ∧ params.loopFitted = 1
      ∧ (at' 2 .stale .moving).run.state = .moving ∧ (at' 2 .stale .moving).run.run.abortPending = false := by decide +kernel
theorem witness_status_with_an_abort :
    let s := holding 2 .service .held
    let a := { s with
      run := { s.run with run := { s.run.run with abortPending := true, abortOrigin := true } }
      peerCtl := { s.peerCtl with statusTimer := some 0 } }
    let t := after .statusTimerExpiry a
    a.listening = false ∧ a.peerCtl.statusTimer.isSome = true ∧ a.run.run.abortOrigin = true ∧ a.runId = some ⟨1, 1⟩
      ∧ t.line2.queue.map (·.body.priority) = [1, 3] ∧ t.peerCtl.statusTimer = startTimer s.params.tStatus := by decide +kernel
/-- R124: the door at W and beyond it, and in a run state that keeps it shut. -/
theorem test_door_release :
    let at' (x : Int) (st : RunState) : State :=
      let s := holding 2 .service st
      { s with
        pos := { s.pos with um := 1000 * x, quality := .confirmed, standstill := true, ring := [(x, 990)] }
        peers := setAt s.peers 2 { present 1 with contents := some { peerStatus 1 with standstill := true } } }
    [(150, RunState.dwell), (151, .dwell), (59850, .held), (150, .dispatch)].map
      (fun (c : Int × RunState) => (after (.sampleTimerExpiry 0) (at' c.1 c.2)).outputs.doorRelease) = [true, false, true, false] := by
  decide +kernel
/-- A request of the moment that found the latch set sets it again after a RESET_TRIP (R174), and a millisecond later none does. -/
theorem test_request_kept_for_a_reset :
    let s := { trippedDrive with
      pos := { trippedDrive.pos with standstill := true }, brakes := { trippedDrive.brakes with ebTimer := some 0 } }
    let k := after .emergencyBrakeTimerExpiry s
    let t := after .resetTrip k
    k.trips.latch = some .localTrip ∧ t.trips.latch = some .brakeFb ∧ t.run.state = .tripped ∧ t.port.result = .done
      ∧ (after .resetTrip (countTimers k)).run.state = .idle := by decide +kernel
theorem witness_reset_with_an_origin_left :
    let s := { trippedDrive with pos := { trippedDrive.pos with standstill := true } }
    let o := { s with trips := { s.trips with origins := setAt s.trips.origins 2 (some .mark) } }
    o.trips.kept = none ∧ o.run.state = .tripped ∧ o.trips.origins.get 2 ≠ none ∧ o.overspeed ≠ .trip
      ∧ o.lineStandstill = true ∧ (after .resetTrip o).run.state = .tripped ∧ (after .resetTrip o).trips.latch = none := by
  decide +kernel
theorem witness_reset_at_rest :
    { atRest trippedDrive with trips := { (atRest trippedDrive).trips with latch := none } }.AtRest :=
  atRest_of_bare _ rfl (by decide) (by decide) (by decide) (by decide +kernel) (by decide)
/-- R121: a misaligned flag stands in DWELL. -/
theorem test_misaligned_flag_outlives_its_leg :
    let s := { holding 2 .service .moving with
      run := ⟨.moving, 1, { RunRecord.empty with
        hdr := some ⟨⟨1, 1⟩, .service, .up⟩, misaligned := true, stops := [⟨30150, .loop, 8000, .pending⟩] }⟩ }
    (endLeg .dwell s).run.run.misaligned = true ∧ (endLeg .dwell s).run.run.berth = none := by decide +kernel

/-! ### The drive heard by another station -/

/-- The drive's STATUS with run 1 of slot 1. -/
def driveStatus (st : RunState) (leg : Nat) (target : Int) : Status :=
  { peerStatus 1 with
    runState := st, runId := if st = .idle then none else some ⟨1, 1⟩, leg := leg, target := target, standstill := true }
/-- A station in a run of two legs, the TERMINAL its last stop. -/
def follower (role : Fin 8) (st : RunState) : State :=
  let s := holding role .service st
  { s with run := { s.run with run := { s.run.run with
      decision := .pass, stops := [⟨20000, .halt, 6000, .pending⟩, ⟨60000, .terminal, 3000, .pending⟩] } } }
def withRun (f : RunRecord → RunRecord) (s : State) : State := { s with run := { s.run with run := f s.run.run } }

theorem hearsSoundDrive (st : Status) (s : State) (drive : st.role = some .drive) (profile : st.profileId = s.loader.profileId)
    (sound : st.fault = false ∧ s.configFault = false) (untripped : st.trip = none ∧ s.tripAsserted = false)
    (other : s.role ≠ none ∧ s.isDrive = false) (running : s.phase = .running) (slot : s.ownSlot = 1)
    (memory : s.rx.seqMem.get 2 = none) (blank : ∀ j, (s.peer j).contents = none)
    (read : parseFrame (frameOf ⟨2, 7, .status st⟩) true = some ⟨2, 7, .status st⟩) :
    s.HearsSoundDrive (frameOf ⟨2, 7, .status st⟩) true ⟨2, 7, .status st⟩ st :=
  ⟨accepted _ s running slot memory read, rfl, drive, ⟨profile, sound⟩,
    fun j c _ h => (by rw [blank j] at h; cases h), other, untripped⟩
theorem witness_HearsDrive :
    ∀ st ∈ [driveStatus .moving 0 20000, driveStatus .stopping 0 20000, driveStatus .dwell 0 20000, driveStatus .arrived 0 20000,
        driveStatus .moving 1 60000, driveStatus .idle 0 0, { driveStatus .moving 0 20000 with decision := .stop }],
      ∀ s ∈ [follower 4 .moving, follower 4 .held, follower 4 .dwell, follower 4 .arrived, follower 4 .awaitGo,
          follower 4 .dispatch, station 4,
          withRun (fun r => { r with startedBy := some .runGo }) (follower 4 .held), holding 4 .service .moving,
          follower 2 .awaitGo, withRun (fun r => { r with joinedInDwell := true }) (follower 2 .dwell), station 2],
        s.HearsDrive (frameOf ⟨2, 7, .status st⟩) true ⟨2, 7, .status st⟩ st := by
  intro st hst s hs
  have all : ∀ st ∈ [driveStatus .moving 0 20000, driveStatus .stopping 0 20000, driveStatus .dwell 0 20000,
        driveStatus .arrived 0 20000, driveStatus .moving 1 60000, driveStatus .idle 0 0,
        { driveStatus .moving 0 20000 with decision := .stop }],
      st.role = some .drive ∧ st.profileId = (9, 9) ∧ st.fault = false ∧ st.trip = none ∧ st.hold = false
        ∧ parseFrame (frameOf ⟨2, 7, .status st⟩) true = some ⟨2, 7, .status st⟩ := by decide +kernel
  have every : ∀ s ∈ [follower 4 .moving, follower 4 .held, follower 4 .dwell, follower 4 .arrived, follower 4 .awaitGo,
          follower 4 .dispatch, station 4,
        withRun (fun r => { r with startedBy := some .runGo }) (follower 4 .held), holding 4 .service .moving,
          follower 2 .awaitGo, withRun (fun r => { r with joinedInDwell := true }) (follower 2 .dwell), station 2],
      s.loader.profileId = (9, 9) ∧ s.configFault = false ∧ s.tripAsserted = false ∧ s.holdsEmpty = true
        ∧ s.run.run.abortPending = false ∧ s.role ≠ none ∧ s.isDrive = false ∧ s.phase = .running ∧ s.ownSlot = 1
        ∧ s.rx.seqMem.get 2 = none ∧ ∀ j, (s.peer j).contents = none := by decide +kernel
  obtain ⟨h1, h2, h3, h4, h5, h6⟩ := all st hst
  obtain ⟨g1, g2, g3, g4, g5, g6, g7, g8, g9, g10, g11⟩ := every s hs
  exact ⟨hearsSoundDrive st s h1 (h2.trans g1.symm) ⟨h3, g2⟩ ⟨h4, g3⟩ ⟨g6, g7⟩ g8 g9 g10 g11 h6, h5, g4, g5⟩
/-- A follower in STOPPING with a hold of slot 3. -/
def heldUp (role : Fin 8) : State := withRun (fun r => { r with holds := setAt r.holds 3 (some false) }) (follower role .stopping)
theorem witness_HearsSoundDrive :
    ∀ st ∈ [driveStatus .dwell 0 20000, driveStatus .arrived 0 20000, driveStatus .idle 0 0, { driveStatus .dwell 0 20000 with hold := true }],
      (heldUp 4).HearsSoundDrive (frameOf ⟨2, 7, .status st⟩) true ⟨2, 7, .status st⟩ st := by
  intro st hst
  have all : ∀ st ∈ [driveStatus .dwell 0 20000, driveStatus .arrived 0 20000, driveStatus .idle 0 0,
        { driveStatus .dwell 0 20000 with hold := true }],
      st.role = some .drive ∧ st.profileId = (heldUp 4).loader.profileId ∧ st.fault = false ∧ st.trip = none
        ∧ parseFrame (frameOf ⟨2, 7, .status st⟩) true = some ⟨2, 7, .status st⟩ := by decide +kernel
  obtain ⟨h1, h2, h3, h4, h5⟩ := all st hst
  exact hearsSoundDrive st _ h1 h2 ⟨h3, by decide⟩ ⟨h4, by decide⟩ (by decide) rfl rfl (by decide) (by decide) h5
/-- In STOPPING the leg ends and a lost run closes too, with HELD between where the drive's hold flag is clear (R113, R115; log 55). -/
theorem test_leg_ends_from_stopping :
    let t (st : Status) : State := hear (.status st) (heldUp 4)
    let kinds (s : State) : List EventKind := (s.port.queue.map (·.kind)).filter fun k => k == .held || k == .legReached || k == .runClosed
    let d := driveStatus .dwell 0 20000
    (t d).run.state = .dwell ∧ kinds (t d) = [.held, .legReached] ∧ kinds (t { d with hold := true }) = [.legReached]
      ∧ (t { d with hold := true }).run.run.holds.get 2 = some false ∧ (t (driveStatus .idle 0 0)).run.state = .idle
      ∧ kinds (t (driveStatus .idle 0 0)) = [.held, .runClosed] ∧ (t { d with standstill := false }).run.state = .stopping := by
  decide +kernel
/-- Leg end, lost close, start, next leg, adoption and rejoin by the drive's STATUS (R99, R113 to R115, R118, R122). -/
theorem test_the_drives_status_moves_a_follower :
    let on (st : RunState) (leg : Nat) (target : Int) (s : State) : State := hear (.status (driveStatus st leg target)) s
    let state (s : State) : RunState × Nat × Bool := (s.run.state, s.run.run.leg, s.tripAsserted)
    state (on .dwell 0 20000 (follower 4 .moving)) = (.dwell, 0, false)
      ∧ (on .dwell 0 20000 (follower 4 .moving)).run.run.stops.map (·.status) = [.reached, .pending]
      ∧ state (on .arrived 0 20000 (follower 4 .held)) = (.arrived, 0, false)
      ∧ state (on .idle 0 0 (follower 4 .moving)) = (.idle, 0, false)
      ∧ state (hear (.status { driveStatus .dwell 0 20000 with standstill := false }) (follower 4 .held)) = (.held, 0, false)
      ∧ state (on .moving 0 20000 (follower 4 .awaitGo)) = (.moving, 0, false)
      ∧ state (on .moving 1 60000 (follower 4 .awaitGo)) = (.awaitGo, 0, false)
      ∧ (on .moving 0 20000 (follower 4 .awaitGo)).currentStop = some (20000, 6000)
      ∧ state (on .moving 1 60000 (follower 4 .dwell)) = (.moving, 1, false)
      ∧ (hear (.status { driveStatus .moving 0 20000 with decision := .stop }) (holding 4 .service .moving)).run.run.decision = .stop
      ∧ state (on .moving 1 60000 (station 4)) = (.moving, 1, false) ∧ (on .moving 1 60000 (station 4)).stopCount = 0
      ∧ (on .moving 1 59849 (station 4)).run.run.stops.map (·.pos) = [30150, 60000]
      ∧ (on .moving 1 59850 (station 4)).run.run.stops.map (·.pos) = [60000]
      ∧ state (on .dwell 0 20000 (station 4)) = (.dwell, 0, false) ∧ state (on .held 0 20000 (station 4)) = (.idle, 0, false) := by
  decide +kernel
/-- A follower in HELD resumes on one sign and passes over the other (R155). -/
theorem test_follower_resumes_once :
    let go := Body.runGo ⟨1, 1⟩ 0 20000
    let shown := Body.status (driveStatus .moving 0 20000)
    let heard (by' : Option StartSign) : State :=
      { withRun (fun r => { r with startedBy := by' }) (follower 4 .held) with peers := setAt (station 4).peers 2 (present 1) }
    let state (s : State) : RunState × Option StartSign := (s.run.state, s.run.run.startedBy)
    (hear go (heard none)).run.state = .moving ∧ (hear shown (heard none)).run.state = .moving
      ∧ state (hear go (heard (some .status))) = (.held, none) ∧ state (hear shown (heard (some .runGo))) = (.held, none)
      ∧ (hear go (heard (some .runGo))).run.state = .moving ∧ (hear shown (heard (some .status))).run.state = .moving
      ∧ (hear (.runGo ⟨1, 1⟩ 1 60000) (heard none)).run.state = .held := by decide +kernel
/-- RUN_GO of a later leg: taken in DWELL for the next leg alone, and in IDLE for the run that the drive shows (R114, R122). -/
theorem witness_later_RunGo :
    let knows (s : State) : State := { s with peers := setAt s.peers 2 { present 1 with contents := some (driveStatus .moving 1 60000) } }
    let d := knows (follower 4 .dwell)
    let i := knows (station 4)
    let state (s : State) : RunState × Nat := (s.run.state, s.run.run.leg)
    (d.peer 2).knownDrive = true ∧ d.isDrive = false ∧ d.tripAsserted = false ∧ d.holdsEmpty = true
      ∧ d.run.run.abortPending = false ∧ d.runId = some ⟨1, 1⟩ ∧ i.role ≠ none
      ∧ i.driveRecord = some (2, driveStatus .moving 1 60000) ∧ (driveStatus .moving 1 60000).runId = some ⟨1, 1⟩
      ∧ state (hear (.runGo ⟨1, 1⟩ 1 60000) d) = (.moving, 1) ∧ state (hear (.runGo ⟨1, 1⟩ 2 60000) d) = (.dwell, 0)
      ∧ state (hear (.runGo ⟨1, 1⟩ 1 60000) i) = (.moving, 1) ∧ state (hear (.runGo ⟨1, 2⟩ 1 60000) i) = (.idle, 0)
      ∧ (hear (.runGo ⟨1, 1⟩ 1 60400) i).run.run.stops.map (·.pos) = [30150, 60000] := by decide +kernel

/-! ### Start-up, roles and barred senders -/

theorem witness_safe_loading : loading.safeOutputs ∧ loading.phase = .loading := ⟨fun _ => rfl, rfl⟩
/-- A claim on the own role raises the conflict; it ends with the claim, by STATUS or by a timer (R64). -/
theorem test_role_conflict :
    let t := hear (.status (peerStatus 4)) (station 4)
    let u := after (.frameArrival .line1 (frameOf ⟨2, 8, .status (peerStatus 5)⟩) true) t
    let stale := after (.staleTimerExpiry 2) t
    let lost := after (.lostTimerExpiry 2) t
    t.peerCtl.roleConflict = true ∧ t.consent = none ∧ (t.peer 2).exclusion = .role ∧ u.peerCtl.roleConflict = false
      ∧ lost.peerCtl.roleConflict = false ∧ stale.peerCtl.roleConflict = false
      ∧ (lost.port.queue.filter fun e => e.kind == .roleConflict).map (fun e => (e.slot, e.value)) = [(2, 1), (2, 0)] := by
  decide +kernel
/-- R83: a run frame of an ABSENT or EXCLUDED sender, in the listen period and in CONFIG_FAULT; RUN_GO of a sender that is no DRIVE. -/
theorem witness_barred_frames :
    let s := station 4
    let x := s.setPeer 2 { present 1 with state := .excluded }
    let listening := { manned s with loader := { s.loader with listenTimer := some 5 } }
    (s.peer 2).state = .absent ∧ (x.peer 2).state = .excluded ∧ listening.listening = true ∧ (present 2).state = .present
      ∧ started.configFault = false ∧ (after (.startUpComplete [] PlantPins.none) loading).configFault = true
      ∧ (∀ c, (present 2).contents = some c → c.role ≠ some .drive)
      ∧ (hear (.runOpen ⟨2, 1⟩ .service .up false) s).run.state = .idle
      ∧ (hear (.runOpen ⟨2, 1⟩ .service .up false) x).run.state = .idle
      ∧ (hear (.runOpen ⟨2, 1⟩ .service .up false) (manned s)).run.state = .dispatch := by
  refine ⟨by decide, by decide, by decide, by decide, by decide +kernel, by decide +kernel, ?_, by decide +kernel, by decide +kernel,
    by decide +kernel⟩
  intro c h; cases h; decide

/-! ### The drive in motion -/

/-- With a configuration fault the own demand is TRIP, the combined demand NONE (R143), and the own record shows no run (R70). -/
theorem test_faulted_drive :
    let t := after (.startUpComplete [] PlantPins.none) loading
    t.env.demand = .trip ∧ t.combinedDemand = .none ∧ t.run.state = .tripped ∧ t.trips.latch = some .config
      ∧ (statusRunWords t.own.status).eraseIdx 3 = List.replicate 7 noneWord := by decide +kernel
/-- The reference rises by one step toward the speed allowed (R109 to R111). -/
theorem witness_speed_reference :
    let s := arriving 30000 false
    let c := { manned s with pos := { s.pos with quality := .confirmed }, profile := { s.profile with proof := 7 } }
    let t := after (.sampleTimerExpiry 0) c
    c.run.state = .moving ∧ c.run.run.decision ≠ .undecided ∧ 0 ≤ c.params.vMax ∧ 0 ≤ c.params.vCreep
      ∧ t.run.state = .moving ∧ t.tripAsserted = false ∧ t.braking = false ∧ 0 ≤ t.driveLimitHere ∧ t.runDir = some .up
      ∧ t.stopInUse = some (60000, 3000) ∧ c.ref.vref = 0
      ∧ t.ref.vref = max 1 (floorDiv (c.params.aAcc * c.params.tSamp) 1000) := by decide +kernel
/-- The berthing target at the loop station: formed with no estimate as p_loop, with one from the offsets, and frozen. -/
theorem witness_berthing_target :
    let at' (x : Option Int) (frozen : Bool) : State :=
      let s := withRun (fun r => { r with
        decision := .stop, berthFrozen := frozen, berth := if frozen then some 30000 else none
        stops := [⟨30150, .loop, 8000, .pending⟩, ⟨60000, .terminal, 3000, .pending⟩] }) (holding 4 .service .moving)
      let drive (x : Int) : PeerRecord := { present 1 with contents := some { peerStatus 1 with x := x, quality := .confirmed } }
      { s with
        peerCtl := { s.peerCtl with recompTimer := some 0 }
        peers := match x with | some x => setAt s.peers 2 (drive x) | none => s.peers }
    let t (x : Option Int) (frozen : Bool) : RunRecord := (after .recomputationTimerExpiry (at' x frozen)).run.run
    (at' none false).loopLeg = true ∧ (at' none false).run.state = .moving ∧ (at' none false).peerCtl.recompTimer.isSome = true
      ∧ (formSup (some .up) (at' none false).enteredAll).est = none ∧ (t none false).berth = some params.pLoop
      ∧ (formSup (some .up) (at' (some 100) false).enteredAll).est = some (100, 0)
      ∧ (t (some 100) true).berth = some 30000 ∧ (t (some 100) true).berthFrozen = true := by decide +kernel
/-- Cars 320 mm apart are misaligned by 320 mm; the target freezes at s_creep before it and not a millimetre earlier (R119 to R121). -/
theorem test_misaligned_target_freezes :
    let at' (x : Int) : State :=
      let s := withRun (fun r => { r with
        decision := .stop, stops := [⟨30150, .loop, 8000, .pending⟩, ⟨60000, .terminal, 3000, .pending⟩] }) (holding 4 .service .moving)
      let shows (role : Fin 8) (x : Int) : PeerRecord :=
        { present role with contents := some { peerStatus role with x := x, quality := .confirmed } }
      { s with
        peerCtl := { s.peerCtl with recompTimer := some 0 }
        peers := setAt (setAt (setAt s.peers 2 (shows 1 x)) 3 (shows 2 (x + 320))) 4 (shows 3 x) }
    let t (x : Int) : State := after .recomputationTimerExpiry (at' x)
    let run (s : State) : Option Int × Bool × Bool := (s.run.run.berth, s.run.run.berthFrozen, s.run.run.misaligned)
    run (t 27669) = (some 29990, false, true) ∧ run (t 27670) = (some 29990, true, true) ∧ (t 27669).tripAsserted = false
      ∧ ((t 27669).port.queue.filter fun e => e.kind == .loopMisaligned).map (·.value) = [320] := by decide +kernel
/-- The hold target beyond one throat, beyond two, and at the stop where that is nearer (R151). -/
theorem test_hold_target :
    let at' (x stop : Int) (throats : List Nat) : State :=
      let s := withRun (fun r => { r with decision := .pass, stops := [⟨stop, .terminal, 3000, .pending⟩] }) (holding 4 .service .moving)
      { placed x s with loader := { s.loader with image := some { image with
          blocks := throats.foldl (fun bs k => bs.set k { blockAt bs k with noHalt := true }) image.blocks } } }
    let t (x stop : Int) (throats : List Nat) : Option Int := (at' x stop throats).formHoldTarget
    (at' 17000 60000 [0]).noPosition = false ∧ (at' 17000 60000 [0]).usesFreePlanning = false
      ∧ (at' 17000 60000 [0]).currentStop = some (60000, 3000) ∧ 0 < params.wClear
      ∧ t 17000 60000 [] = some 19000 ∧ t 17000 60000 [0] = some 21000 ∧ t 17000 60000 [0, 1] = some 41000
      ∧ t 17000 20500 [0] = some 20500 ∧ (holding 4 .service .moving).noPosition = true := by decide +kernel
/-- The consent view takes an accepted STATUS, loses a record that leaves PRESENT, and is emptied by a close (R80, R88, R97). -/
theorem test_consent_view :
    let st := { peerStatus 2 with runState := .awaitGo, runId := some ⟨2, 1⟩, consent := some 3 }
    let run : RunRecord := { RunRecord.empty with hdr := some ⟨⟨2, 1⟩, .service, .up⟩, consentTimer := some 0 }
    let s := { station 1 with run := ⟨.awaitGo, 1, run⟩ }
    let t := hear (.status st) s
    let stranger := hear (.status { st with profileId := (1, 2) }) s
    let opened := after (.frameArrival .line1 (frameOf ⟨2, 8, .runOpen ⟨1, 9⟩ .service .up false⟩) true) t
    t.run.run.consents.get 2 = some (some ⟨2, 1⟩, 3) ∧ stranger.run.run.consents.get 2 = none
      ∧ (after (.staleTimerExpiry 2) t).run.run.consents.get 2 = none
      ∧ (after .consentTimerExpiry t).run.run = RunRecord.empty ∧ (t.peer 2).state = .present
      ∧ opened.runId = some ⟨1, 9⟩ ∧ opened.run.run.consents.get 2 = none
      ∧ (hear (.status st) (station 4)).run.run.consents.get 2 = none := by decide +kernel
/-- The same installation with stronger service stages: a_unit three times as large. -/
def gentle (s : State) : State :=
  { s with loader := { s.loader with image := some { image with params := { params with aUnit := 3 * params.aUnit } } } }
/-- A DRIVE whose cars consent commits when the window ends (R98). -/
theorem witness_commitment :
    let agrees (role : Fin 8) : PeerRecord :=
      { present role with contents := some { peerStatus role with
          runId := some ⟨1, 1⟩, consent := some 1, runState := .awaitGo, quality := .confirmed, doorClosed := true } }
    let s := gentle (placed 0 (timers (holding 1 .service .dispatch)))
    let c := viewed { withRun (fun r => { r with stops := [⟨60000, .terminal, 3000, .pending⟩] }) s with
      peers := setAt (setAt (setAt s.peers 2 (agrees 2)) 3 (agrees 3)) 4 (agrees 4)
      pos := { s.pos with quality := .confirmed, ring := [(0, 990)] } }
    let t := after .dispatchTimerExpiry c
    c.isDrive = true ∧ c.run.run.dispatchTimer.isSome = true ∧ c.commitReady = true ∧ c.run.run.abortPending = false
      ∧ c.sup.est ≠ none ∧ c.params.W < Dir.up.sgn * (c.params.pLoop - c.xSup) ∧ t.run.state = .moving ∧ t.run.run.leg = 0
      ∧ t.run.run.decision = .undecided ∧ t.tripAsserted = false := by decide +kernel
/-- A DRIVE at rest and parked meets the invariants of parking, level and rest. -/
theorem witness_parked_drive :
    let s := after .emergencyStopInactive (station 1)
    s.parkingSound ∧ s.levelSound ∧ s.restSound ∧ s.parkingApplies = true ∧ s.brakes.parkRequested ≠ none
      ∧ ∃ t, step { s with pending := [.trip] } = .next t := by
  refine ⟨?_, ?_, ?_, by decide +kernel, by decide +kernel, _, rfl⟩
  · unfold State.parkingSound; decide +kernel
  · unfold State.levelSound; decide +kernel
  · unfold State.restSound; decide +kernel
/-- PARK_DEGRADED exactly where no achievable level reaches the one required (R166). -/
theorem test_park_degraded :
    let level (s : State) : Option Int × Bool := let b := (after .emergencyStopInactive s).brakes; (b.parkRequested, b.parkDegraded)
    let s := gentle (station 1)
    level (station 1) = (some 23, true) ∧ level s = (some 8, false)
      ∧ level { s with brakes := { s.brakes with stage8 := ⟨true, none⟩ } } = (some 8, true) := by decide +kernel
/-- An emergency-stop input active as start-up completes: LOCAL after the first parking level and its PARK_DEGRADED (log 52). -/
theorem test_start_up_parks_before_it_trips :
    let t := after (.startUpComplete imageBytes { PlantPins.none with emergencyStop := true }) loading
    t.port.queue.map (·.kind) = [.parkDegraded, .tripLatched] ∧ t.trips.latch = some .localTrip ∧ t.run.state = .tripped
      ∧ t.brakes.parkDegraded = true ∧ t.brakes.parkRequested = none := by decide +kernel
/-- The PARK_DEGRADED of a trip that ends: with the ended run's id at a RESET_TRIP, without one where the last origin leaves (log 67). -/
theorem test_parking_at_the_end_of_a_trip :
    let s := { holding 1 .service .tripped with pos := { (station 1).pos with standstill := true } }
    let ids (t : State) : List (EventKind × Option RunId) := t.port.queue.map fun e => (e.kind, e.run)
    ids (after .resetTrip { s with trips := { s.trips with latch := some .localTrip } })
        = [(.tripCleared, some ⟨1, 1⟩), (.parkDegraded, some ⟨1, 1⟩)]
      ∧ ids (leaveOrigin 2 { s with trips := { s.trips with origins := setAt s.trips.origins 2 (some .mark) } })
        = [(.tripCleared, some ⟨1, 1⟩), (.parkDegraded, none)] := by decide +kernel
/-- Overspeed at its margins (R136), and the cause that the level TRIP latches (R139). -/
theorem witness_envelope_levels :
    let at' (v : Int) : State := { follower 4 .moving with
      sup := ⟨some (100, v), [], 0⟩, profile := { (station 4).profile with proof := 7 } }
    let limit := (at' 0).limit 0
    (at' 0).overspeed = .none ∧ (at' (limit + params.dSvc)).overspeed = .none ∧ (at' (limit + params.dSvc + 1)).overspeed = .service
      ∧ (at' (limit + params.dTrip)).overspeed = .service ∧ (at' (limit + params.dTrip + 1)).overspeed = .trip
      ∧ (evaluate (at' (limit + params.dTrip + 1))).trips.latch = some .overspeed ∧ (at' 0).trips.latch = none
      ∧ (station 4).sup.est = none ∧ (station 4).overspeed = .none ∧ (at' 0).targets ≠ []
      ∧ (holding 4 .service .moving).stationLevel = .service := by decide +kernel
/-- The effective limit: the block's own, an entry that covers it, v_insp where UNPROVEN (R15, R18). -/
theorem witness_effective_limit :
    let s := { station 4 with profile := { (station 4).profile with proof := 3 } }
    let r := { s with profile := { s.profile with restrictions := setAt s.profile.restrictions 3 (some ⟨false, 1, false, 700⟩) } }
    s.limit 0 = 6000 ∧ s.limit 2 = s.params.vInsp ∧ r.limit 0 = 700 ∧ r.limit 1 = 6000 := by decide +kernel
/-- RECON is kept for the moment: the STATUS formed after the reset carries no proof (R12). -/
theorem test_recon_status_carries_no_proof :
    let s := { trippedDrive with
      pos := { trippedDrive.pos with standstill := true }, profile := { trippedDrive.profile with proof := 7 }
      trips := { trippedDrive.trips with kept := some .recon } }
    let t := after .resetTrip s
    t.trips.latch = some .recon ∧ t.profile.proof = 0 ∧ t.own.status.proof = 0 ∧ t.own.status.trip = some .recon := by
  decide +kernel

/-! ### Estimates, spreads and consents -/

/-- A peer record that shows a position. -/
def showing (role : Fin 8) (x : Int) (q : Quality) : PeerRecord :=
  { present role with contents := some { peerStatus role with x := x, quality := q } }
/-- The spread at tol_warn, above it, at tol_trip and above it (R75). -/
theorem witness_spread_tests :
    let t (spread : Int) : State := recompute { station 4 with
      profile := { (station 4).profile with proof := 7 }
      peers := setAt (setAt (station 4).peers 2 (showing 1 10000 .confirmed)) 3 (showing 2 (10000 + spread) .confirmed) }
    let w := params.tolWarn
    (t w).sup.est = some (10000, 0) ∧ 0 ≤ params.tStale ∧ (t w).profile.proof = 7 ∧ (t (w + 1)).profile.proof = 6
      ∧ (t (w + 1)).port.queue.map (fun e => (e.kind, e.value)) = [(.blockUnproven, 1)]
      ∧ (t params.tolTrip).trips.latch = none ∧ (t (params.tolTrip + 1)).trips.latch = some .recon
      ∧ (t (params.tolTrip + 1)).profile.proof = 0 := by decide +kernel
/-- A car without a position takes the drive's (R30), and two CONFIRMED cars within tol_prove confirm the DRIVE's (R29). -/
theorem witness_positions_by_status :
    let c := hear (.status { peerStatus 1 with x := 12345, quality := .unconfirmed }) (station 2)
    let d (off : Int) : State := hear (.status { peerStatus 2 with x := 10000 + off, quality := .confirmed })
      { station 1 with
        pos := { (station 1).pos with x := 10000, quality := .unconfirmed }
        peers := setAt (station 1).peers 3 (showing 3 10000 .confirmed) }
    (station 2).pos.quality = .unknown ∧ (c.pos.x, c.pos.quality, c.pos.ring) = (12345, .unconfirmed, [(12345, 1000)])
      ∧ (d params.tolProve).pos.quality = .confirmed ∧ (d (params.tolProve + 1)).pos.quality = .unconfirmed
      ∧ (d 0).runDir = (station 1).runDir := by decide +kernel
/-- Two claims on one role exclude both records (R63, R66), and a car's new marker fault costs its block the proof, once (R11). -/
theorem witness_claims_and_reports :
    let s := { station 4 with
      peers := setAt (station 4).peers 3 (present 2), profile := { (station 4).profile with proof := 7 } }
    let t := hear (.status (peerStatus 2)) s
    let u (s : State) : State := hear (.status { peerStatus 2 with faultBlock := some 1 }) s
    (s.peer 3).liveClaim .carA = true ∧ ((t.peer 2).state, (t.peer 3).state) = (.excluded, .excluded)
      ∧ (t.port.queue.drop 1).map (fun e => (e.kind, e.slot, e.value)) = [(.peerExcluded, 2, 2), (.peerExcluded, 3, 2)]
      ∧ (u s).profile.proof = 5 ∧ (hear (.status (peerStatus 2)) (station 4)).port.queue.map (·.kind) = [.lineDown, .peerPresent]
      ∧ (u { s with peers := setAt s.peers 2 { present 2 with contents := some { peerStatus 2 with faultBlock := some 1 } } }).profile.proof
        = 7 := by decide +kernel
/-- A TRIP frame brings TRIP_REMOTE at the slot's entry and none at a change of its cause (R171). -/
theorem test_remote_trip_is_reported_once :
    let t := hear (.trip .mark) (station 4)
    let u := after (.frameArrival .line1 (frameOf ⟨2, 8, .trip .recon⟩) true) t
    let reports (s : State) : List (Slot × Int) := (s.port.queue.filter fun e => e.kind == .tripRemote).map fun e => (e.slot, e.value)
    reports t = [(2, (TripCause.mark.code : Int))] ∧ reports u = reports t ∧ u.trips.origins.get 2 = some .recon := by decide +kernel
/-- The own consent of a car, a loop station and a DRIVE, and what withholds it (R94 to R96). -/
theorem witness_consent :
    let c := placed 0 { holding 2 .service .awaitGo with
      car := { (station 2).car with ready := true }, pins := { PlantPins.none with doorClosed := true } }
    let l := placed 0 (holding 4 .service .dwell)
    let d := gentle (placed 0 { holding 1 .service .dispatch with pos := { (station 1).pos with quality := .confirmed } })
    let degraded := { d with brakes := { d.brakes with parkDegraded := true } }
    [c, l, d].map (·.consent) = [some 0, some 0, some 0] ∧ c.startOf c.blocks.length = c.params.L
      ∧ (∀ b ∈ c.blocks, 0 < b.length)
      ∧ [{ c with car := { c.car with ready := false } }, { c with pins := PlantPins.none },
          { l with det := { l.det with dbLow := ⟨none, true⟩ } }, { l with sup := ⟨none, [], 0⟩ }, degraded,
          { d with pos := { d.pos with quality := .unknown } }, placed 0 (holding 4 .service .held)].map (·.consent)
        = List.replicate 7 none := by decide +kernel
/-- REQUEST_RUN with the loop flag: the LOOP stop before the TERMINAL where the loop lies ahead, and RUN_OPENED (R86, R105). -/
theorem test_opened_run_has_its_stops :
    let t (x : Int) : State := after .requestRun (withParams (placed x (station 1)) 1 1 1 0)
    (t 29999).run.run.stops.map (fun e => (e.pos, e.kind)) = [(30150, .loop), (60000, .terminal)]
      ∧ (t 30000).run.run.stops.map (fun e => (e.pos, e.kind)) = [(60000, .terminal)] ∧ (t 0).run.run.decision = .undecided
      ∧ ((t 0).port.queue.head?.map fun e => (e.kind, e.value)) = some (.runOpened, 9) := by decide +kernel
/-- A loop leg ends within W of its frozen berthing target (R112). -/
theorem witness_loop_leg_end :
    let at' (short : Int) : State := withRun (fun r => { r with
      decision := .stop, berth := some 30150, berthFrozen := true
      stops := [⟨30150, .loop, 8000, .pending⟩, ⟨60000, .terminal, 3000, .pending⟩] }) (arriving (29850 + short) true)
    let t (short : Int) : RunState := (after (.sampleTimerExpiry 0) (at' short)).run.state
    (at' 0).firstPending = some ⟨30150, .loop, 8000, .pending⟩ ∧ (at' 0).currentStop = some (30150, 8000)
      ∧ (at' 0).run.run.driven = none ∧ (at' 0).run.run.berthFrozen = true ∧ t 150 = .dwell ∧ t 151 = .moving := by decide +kernel
/-- A demand of SERVICE stays at the level ADVISE, and falls to it at line standstill (R140). -/
theorem witness_own_demand :
    let s := withRun (fun r => { r with stops := [⟨60000, .terminal, 3000, .pending⟩] }) (placed 55000 (follower 4 .moving))
    let at' (level : Level) (still : Bool) : State := { s with
      env := { s.env with demand := level }
      peers := setAt s.peers 2 { present 1 with contents := some { peerStatus 1 with standstill := still } } }
    let left (level : Level) (still : Bool) : Level := (evaluate (at' level still)).env.demand
    s.stationLevel = .advise ∧ s.configFault = false ∧ left .service false = .service ∧ left .service true = .advise
      ∧ left .none false = .advise ∧ left .trip false = .advise ∧ (evaluate s).trips.latch = none := by decide +kernel
/-- A restriction that comes with a STATUS is evaluated before the estimate that the same STATUS brings (R127; log 57). -/
theorem test_restriction_is_evaluated_before_the_estimate :
    let s := { placed 100 (follower 4 .moving) with
      sup := ⟨some (100, 5000), [], 0⟩, profile := { (station 4).profile with proof := 7 }
      peers := setAt (station 4).peers 2 (showing 1 100 .confirmed) }
    let st := { driveStatus .moving 0 20000 with x := 100, quality := .confirmed, standstill := false, restriction := none }
    let t (r : Option Restriction) : State := hear (.status { st with restriction := r }) s
    (t none).trips.latch = none ∧ (t (some ⟨false, 1, false, 1000⟩)).trips.latch = some .overspeed := by decide +kernel
/-- A resume that a hold stops again at line standstill evaluates the door release anew (R124). -/
theorem test_door_release_within_one_event :
    let s := withRun (fun r => { r with holds := setAt r.holds 5 (some false) }) (follower 2 .held)
    let c := { s with
      pins := { s.pins with doorClosed := true }, outputs := { s.outputs with doorRelease := true }
      pos := { s.pos with x := 10000, um := 10000000, quality := .confirmed, standstill := true }
      peers := setAt s.peers 2 { present 1 with contents := some { peerStatus 1 with standstill := true } } }
    let t := hear (.runGo ⟨1, 1⟩ 0 20000) c
    t.run.state = .held ∧ t.outputs.doorRelease = false ∧ t.tripAsserted = false := by decide +kernel

/-! ### At the change itself: reference, output, STATUS, TX_DROP, trips, HELD and RESUMED, marker monitor -/

/-- A DRIVE on a loop leg whose old berthing target lies behind the line: the sample's evaluation finds SERVICE and sets v_ref to 0, the
new target ends the demand, and the reference starts again from 0 (R107, R111, R119; log 57). -/
theorem test_reference_starts_again_after_a_demand_within_one_sample :
    let s := gentle (withRun (fun r => { r with
      decision := .stop, berth := some 20000, stops := [⟨30150, .loop, 8000, .pending⟩, ⟨60000, .terminal, 3000, .pending⟩] })
      (holding 1 .service .moving))
    let at' (berth : Int) : State := withRun (fun r => { r with berth := some berth }) { s with
      pos := { s.pos with um := 26000000, x := 26000, quality := .confirmed, ring := [(26000, 900)] }
      profile := { s.profile with proof := 7 }, ref := ⟨100, none⟩ }
    let t (berth : Int) : State := after (.sampleTimerExpiry 0) (at' berth)
    (reevaluate (handSup (at' 20000))).braking = true ∧ (recompute (at' 20000)).braking = false
      ∧ [t 20000, t 30150].map (fun t => (t.ref.vref, t.run.run.berth, t.braking, t.tripAsserted))
        = [(8, some 30150, false, false), (108, some 30150, false, false)] := by decide +kernel
/-- The reference output: silent before the first sample, then the word of v_ref, and 0 at a trip (R107, R108). -/
theorem test_reference_output :
    let s := arriving 30000 false
    let c := { manned s with pos := { s.pos with quality := .confirmed }, profile := { s.profile with proof := 7 } }
    let t := after (.sampleTimerExpiry 0) c
    (after .emergencyStopInactive c).outputs.speedWord = none ∧ t.outputs.speedWord = some 8
      ∧ (after .trip t).outputs.speedWord = some 0 ∧ (after (.sampleTimerExpiry 0) (station 2)).outputs.speedWord = none := by
  decide +kernel
/-- A DRIVE after a sample meets the invariants of reference output, announcements, marker monitor and emergency brake. -/
theorem witness_invariants_after_a_sample :
    let s := after (.sampleTimerExpiry 0) (station 1)
    (s.referenceSound ∧ s.referenceOutputSound ∧ s.announcedSound ∧ s.monitorSound ∧ s.emergencySound)
      ∧ s.outputs.speedWord = some 0 ∧ s.inMotion = false ∧ ∃ t, step { s with pending := [.trip] } = .next t := by
  refine ⟨⟨?_, ⟨?_, fun _ _ w h => ?_⟩, ?_, ?_, ?_⟩, by decide +kernel, by decide +kernel, _, rfl⟩
  · unfold State.referenceSound; decide +kernel
  · decide +kernel
  · have e : (after (.sampleTimerExpiry 0) (station 1)).outputs.speedWord = some 0 := by decide +kernel
    rw [e] at h
    cases h
    decide +kernel
  · unfold State.announcedSound; decide +kernel
  · unfold State.monitorSound; decide +kernel
  · unfold State.emergencySound; decide +kernel
/-- A moving DRIVE as a sample leaves it meets the invariants, and at the next sample the reference goes on from where it stood. -/
theorem witness_reference_goes_on :
    let m := arriving 30000 false
    let s := after (.sampleTimerExpiry 0)
      { manned m with pos := { m.pos with quality := .confirmed }, profile := { m.profile with proof := 7 } }
    let t := after (.sampleTimerExpiry 0) s
    (s.levelSound ∧ s.referenceSound ∧ s.monitorSound) ∧ s.pos.sampleTimer.isSome = true ∧ t.run.run.berth = s.run.run.berth
      ∧ t.run.state = s.run.state ∧ t.tripAsserted = false ∧ t.braking = false ∧ (s.ref.vref, t.ref.vref) = (8, 16) := by
  refine ⟨⟨?_, ?_, ?_⟩, by decide +kernel⟩
  · unfold State.levelSound; decide +kernel
  · unfold State.referenceSound; decide +kernel
  · unfold State.monitorSound; decide +kernel
/-- A HOLD changes the own hold flag: the STATUS is formed now and waits (R69). -/
theorem witness_change_announced :
    let s := { after .emergencyStopInactive (placed 0 (holding 2 .service .dispatch)) with clock := 2000 }
    let t := after .hold s
    s.announcedSound ∧ s.phase = .running ∧ t.phase = .running ∧ t.holdFlag ≠ s.holdFlag ∧ t.listening = false
      ∧ s.own.formedAt ≠ 2000 ∧ t.own.formedAt = 2000 ∧ t.own.status.hold = true
      ∧ t.peerCtl.statusTimer = startTimer s.params.tStatus := by
  refine ⟨?_, by decide +kernel⟩
  unfold State.announcedSound; decide +kernel
/-- Section 3.3: a STATUS dropped on a full line, and a HOLD displaced by a TRIP, with their TX_DROP values (R47). -/
theorem witness_tx_drop :
    let s := { station 4 with
      line1 := { (station 4).line1 with queue := (List.range 8).map aHold }
      peerCtl := { (station 4).peerCtl with statusTimer := some 0 } }
    let events (s : State) : List (EventKind × Slot × Int) := s.port.queue.map fun e => (e.kind, e.slot, e.value)
    s.phase = .running ∧ s.listening = false ∧ s.peerCtl.statusTimer.isSome = true ∧ 8 ≤ (s.line .line1).queue.length
      ∧ (∀ h ∈ (s.line .line1).queue, h.body.priority < 3) ∧ s.port.queue.length ≤ 14
      ∧ (events (after .statusTimerExpiry s)).head? = some (.txDrop, 1, 257)
      ∧ (events (originate (.trip .mark) s)) = [(.txDrop, 1, 263)]
      ∧ events (originate (.trip .mark) (station 4)) = [] := by decide +kernel
/-- The emergency brake's check timer: started by a disagreement, running on, stopped by agreement (R167). -/
theorem witness_emergency_check :
    let s := gentle (station 1)
    let t (applied : Bool) (timer : Timer) : State :=
      after (.emergencyBrakeFeedbackChange applied) { s with brakes := { s.brakes with ebTimer := timer } }
    (t true none).emergencyCommand = false ∧ s.brakes.ebFault = false
      ∧ [t true none, t true (some 7), t false (some 7)].map (·.brakes.ebTimer) = [startTimer s.params.tStage, some 7, none] := by
  decide +kernel
/-- The entry to TRIPPED ends the run but for its identity, with the tracked command and TRIP_LATCHED (R169); a TRIP frame likewise. -/
theorem witness_run_ended_by_a_trip :
    let s := { heldUp 2 with port := { (heldUp 2).port with busy := true, code := 4 } }
    let ends (t : State) : Prop := t.run = ⟨.tripped, 1, { RunRecord.empty with hdr := some ⟨⟨1, 1⟩, .service, .up⟩ }⟩
      ∧ t.port.busy = false ∧ t.port.code = 4 ∧ t.port.result = .tripped
    let events (s : State) : List (EventKind × Slot × Int) := s.port.queue.map fun e => (e.kind, e.slot, e.value)
    let t := after .emergencyStopInput s
    s.run.state ≠ .tripped ∧ s.trips.latch = none ∧ s.pins.emergencyStop = false ∧ s.own.status.trip = none ∧ s.listening = false
      ∧ ends t ∧ events t = [(.tripLatched, 1, 7)] ∧ t.own.status.trip = some .localTrip
      ∧ ends (hear (.trip .mark) s) := by
  decide +kernel
/-- A STATUS with the trip flag brings TRIP_REMOTE and TRIPPED; the next one without it TRIP_CLEARED with the last cause, and IDLE
(R171, R172). -/
theorem witness_trip_by_status :
    let t := hear (.status { peerStatus 2 with trip := some .mark }) (follower 4 .moving)
    let u := after (.frameArrival .line1 (frameOf ⟨2, 8, .status (peerStatus 2)⟩) true) t
    let reports (s : State) : List (EventKind × Slot × Int) :=
      (s.port.queue.filter fun e => e.kind == .tripRemote || e.kind == .tripCleared).map fun e => (e.kind, e.slot, e.value)
    reports t = [(.tripRemote, 2, 4)] ∧ t.run.state = .tripped ∧ t.runId = some ⟨1, 1⟩ ∧ t.run.run.stops = []
      ∧ t.trips.latch = none ∧ t.trips.origins.get 2 = some .mark ∧ (∀ j, j ≠ 2 → t.trips.origins.get j = none)
      ∧ reports u = [(.tripRemote, 2, 4), (.tripCleared, 2, 4)] ∧ u.run.state = .idle ∧ u.runId = none ∧ u.driveRecord = none := by
  decide +kernel
/-- The entry to HELD with the hold set as its mask, by HOLD, by a HOLD frame and at the end of T_still; the return to MOVING by
RELEASE and by a RELEASE frame (R153, R154, R160). -/
theorem witness_held_and_resumed :
    let still (s : State) : State := { s with
      peers := setAt s.peers 5 { present 1 with contents := some { peerStatus 1 with standstill := true } } }
    let held (i : Slot) : State := withRun (fun r => { r with holds := setAt r.holds i (some false) }) (follower 4 .stopping)
    let drive := withRun (fun r => { r with holds := setAt r.holds 3 (some false) }) (follower 1 .stopping)
    let d := gentle { placed 0 drive with pos := { drive.pos with standTimer := some 0, quality := .confirmed } }
    let events (s : State) : List (EventKind × Int) :=
      (s.port.queue.filter fun e => e.kind == .held || e.kind == .resumed).map fun e => (e.kind, e.value)
    let t := after .standstillTimerExpiry d
    events (after .hold (still (heldUp 4))) = [(.held, 10)] ∧ (after .hold (still (heldUp 4))).run.state = .held
      ∧ events (hear (.hold ⟨1, 1⟩) (still (heldUp 4))) = [(.held, 12)]
      ∧ events t = [(.held, 8)] ∧ t.run.state = .held ∧ t.tripAsserted = false ∧ d.holdsEmpty = false
      ∧ events (after .release (held 1)) = [(.resumed, 1)] ∧ (after .release (held 1)).run.state = .moving
      ∧ events (hear (.release ⟨1, 1⟩) (held 2)) = [(.resumed, 1)]
      ∧ (after .release (held 1)).run.run.stops = (held 1).run.run.stops := by decide +kernel
/-- A RUN_OPEN of a known sender opens nothing in the other run states (R86). -/
theorem witness_run_open_ignored :
    ∀ st ∈ [RunState.moving, .stopping, .held, .dwell, .arrived, .tripped],
      let s := manned (holding 4 .service st)
      let t := hear (.runOpen ⟨0, 9⟩ .service .down false) s
      s.run.state = st ∧ (s.peer 2).state = .present ∧ t.runId = some ⟨1, 1⟩
        ∧ t.port.queue.all (fun e => e.kind != .runOpened) = true := by decide +kernel
/-- The monitor of a car: armed at leg 0 with the expectation ahead of x, awaited with the quality UNKNOWN and chosen at the adoption,
kept at a later leg, armed after a join in DWELL, disarmed by a close (R31, R32). -/
theorem witness_monitor_arms :
    let car (st : RunState) (q : Quality) : State :=
      let s := withMarker (follower 2 st)
      { s with
        pins := { PlantPins.none with doorClosed := true }, pos := { s.pos with quality := q }
        marker := { s.marker with faultBlock := some 1 }
        peers := setAt s.peers 2 { present 1 with contents := some (driveStatus .moving 0 20000) } }
    let go (leg : Nat) (target : Int) (s : State) : Marker := (hear (.runGo ⟨1, 1⟩ leg target) s).marker
    let armed : Marker := ⟨true, false, some ⟨17, 20000, 1⟩, 0, none, none, 0⟩
    let joined := withRun (fun r => { r with joinedInDwell := true }) (car .dwell .confirmed)
    let u := hear (.runGo ⟨1, 1⟩ 0 20000) (car .awaitGo .unknown)
    go 0 20000 (car .awaitGo .confirmed) = armed ∧ u.marker = { armed with awaiting := true, expected := none }
      ∧ (after (.frameArrival .line1 (frameOf ⟨2, 8, .status { driveStatus .moving 0 20000 with x := 20000, quality := .unconfirmed }⟩)
          true) u).marker = { armed with expected := some ⟨41, 40000, 2⟩ }
      ∧ go 1 60000 (car .dwell .confirmed) = (car .dwell .confirmed).marker ∧ go 1 60000 joined = armed
      ∧ (hear (.runClose ⟨1, 1⟩ .aborted) (car .dwell .confirmed)).marker = (car .dwell .confirmed).marker.disarm
      ∧ (car .dwell .confirmed).isCar = true := by decide +kernel

/-! ### Parking at an evaluation, other runs, holds by STATUS, insertion, arrival, doors, roles, loads -/

/-- A DRIVE in AWAIT_GO with every consent, stage 8 failed and known loads; a hold of slot 2 keeps it waiting. -/
def heldByCarA : State :=
  let agrees (role : Fin 8) : PeerRecord :=
    { present role with contents := some { peerStatus role with
        runId := some ⟨1, 1⟩, consent := some 1, runState := .awaitGo, quality := .confirmed, doorClosed := true, loadFresh := true } }
  let s := gentle (placed 0 (timers (holding 1 .service .awaitGo)))
  after .emergencyStopInactive (viewed { withRun (fun r => { r with
      stops := [⟨60000, .terminal, 3000, .pending⟩], holds := setAt r.holds 2 (some false) }) s with
    peers := setAt (setAt (setAt s.peers 2 (agrees 2)) 3 (agrees 3)) 4 (agrees 4)
    brakes := { s.brakes with stage8 := ⟨true, none⟩ }
    pos := { s.pos with quality := .confirmed, ring := [(0, 990)] } })
/-- The STATUS that clears the hold and brings a load: the required level is formed before the start conditions are looked at, so a
level out of reach starts nothing (R98, R165, R166). -/
theorem test_a_new_load_forms_the_parking_level :
    let st (load : Nat) : Status := { peerStatus 2 with
      runId := some ⟨1, 1⟩, consent := some 1, runState := .awaitGo, quality := .confirmed, doorClosed := true
      loadFresh := true, load := load }
    let t (load : Nat) : State := hear (.status (st load)) heldByCarA
    heldByCarA.brakes.parkDegraded = false ∧ (t 0).run.state = .moving ∧ (t 0).tripAsserted = false
      ∧ (t 12000).run.state = .awaitGo ∧ (t 12000).brakes.parkDegraded = true ∧ (t 12000).brakes.parkRequested = some 8
      ∧ (t 12000).holdsEmpty = true := by decide +kernel

/-- RUN_GO of another run in DISPATCH and AWAIT_GO: the run closes with CONTENTION, and the station joins the run that the drive's record
shows (R100). -/
theorem witness_run_go_of_another_run :
    let knows (st : RunState) : State := { follower 4 st with
      peers := setAt (station 4).peers 2 { present 1 with contents := some { driveStatus .moving 0 20000 with runId := some ⟨3, 3⟩ } }
      port := { (station 4).port with busy := true, code := 1 } }
    let go (id : RunId) (st : RunState) : State := hear (.runGo id 0 20000) (knows st)
    let closed (t : State) : List (Slot × Option RunId × Int) :=
      (t.port.queue.filter fun e => e.kind == .runClosed).map fun e => (e.slot, e.run, e.value)
    ∀ st ∈ [RunState.dispatch, .awaitGo],
      (knows st).takesRunFrames = true ∧ ((knows st).peer 2).knownDrive = true ∧ (knows st).role ≠ none ∧ (knows st).isDrive = false
        ∧ (knows st).tripAsserted = false ∧ (knows st).runId = some ⟨1, 1⟩
        ∧ (go ⟨3, 3⟩ st).run.state = .moving ∧ (go ⟨3, 3⟩ st).runId = some ⟨3, 3⟩
        ∧ closed (go ⟨3, 3⟩ st) = [(3, some ⟨1, 1⟩, 8)]
        ∧ (go ⟨3, 4⟩ st).run.state = .idle ∧ closed (go ⟨3, 4⟩ st) = [(3, some ⟨1, 1⟩, 8)]
        ∧ (go ⟨3, 4⟩ st).port.result = .refusedContention
        ∧ (hear (.status (driveStatus .idle 0 0)) (follower 4 st)).run.state = (if st = .dispatch then .dispatch else .idle) := by
  decide +kernel

/-- RUN_GO in MOVING and STOPPING: the other sign of a start made by STATUS takes the mark alone, every other one is ignored (R99). -/
theorem witness_run_go_in_motion :
    let s (st : RunState) (by' : Option StartSign) : State := { withRun (fun r => { r with startedBy := by' }) (follower 4 st) with
      peers := setAt (station 4).peers 2 (present 1) }
    let left (t : State) : RunState × Option StartSign × Nat := (t.run.state, t.run.run.startedBy, t.run.run.stops.length)
    let go (leg : Nat) (s : State) : RunState × Option StartSign × Nat := left (hear (.runGo ⟨1, 1⟩ leg 20000) s)
    go 0 (s .moving (some .status)) = (.moving, none, 2) ∧ go 1 (s .moving (some .status)) = (.moving, some .status, 2)
      ∧ go 0 (s .moving (some .runGo)) = (.moving, some .runGo, 2) ∧ go 0 (s .moving none) = (.moving, none, 2)
      ∧ (s .stopping none).takesRunFrames = true ∧ ((s .stopping none).peer 2).knownDrive = true
      ∧ (s .moving none).tripAsserted = false := by decide +kernel

/-- The hold flag of a STATUS: set for the current run, for another one, and clear (R148). -/
theorem witness_hold_flag_of_a_status :
    let st (id : RunId) (hold : Bool) : Status := { peerStatus 2 with runId := some id, runState := .moving, hold := hold }
    let s := { gentle (manned (placed 0 (follower 1 .moving))) with ref := ⟨0, some ⟨20000, 20000, 500, 0⟩⟩ }
    let d := gentle (manned (placed 0 (follower 1 .dispatch)))
    let held := withRun (fun r => { r with holds := setAt (setAt r.holds 5 (some false)) 2 (some true) }) s
    let by2 (st : RunState) : State :=
      withRun (fun r => { r with holds := setAt r.holds 2 (some false) }) (gentle (manned (placed 0 (follower 1 st))))
    let hears (id : RunId) (hold : Bool) (s : State) : State := hear (.status (st id hold)) s
    (hears ⟨1, 1⟩ true s).run.state = .stopping ∧ (hears ⟨1, 1⟩ true s).run.run.holds.get 2 = some false
      ∧ (hears ⟨1, 1⟩ true s).tripAsserted = false ∧ (hears ⟨1, 1⟩ true d).run.state = .awaitGo
      ∧ (hears ⟨7, 7⟩ true s).run.run.holds = s.run.run.holds ∧ (hears ⟨7, 7⟩ true s).run.state = .moving
      ∧ (hears ⟨1, 1⟩ false held).run.run.holds = setAt s.run.run.holds 5 (some false)
      ∧ (hears ⟨1, 1⟩ false (by2 .stopping)).run.state = .moving := by decide +kernel

/-- HOLD, a HOLD frame and a STATUS with the hold flag under a pending abort: the hold enters, and the DRIVE at rest closes (R158). -/
theorem witness_hold_under_a_pending_abort :
    let aborting (role : Fin 8) : State := withRun (fun r => { r with abortPending := true }) (manned (follower role .stopping))
    let atRest (s : State) : State := { s with pos := { s.pos with standstill := true } }
    let left (t : State) : RunState × Option Bool × Option Bool × Bool :=
      (t.run.state, t.run.run.holds.get 1, t.run.run.holds.get 2, t.tripAsserted)
    let c := after .hold (atRest (aborting 1))
    left (after .hold (aborting 1)) = (.stopping, some false, none, false) ∧ (after .hold (aborting 1)).port.busy = true
      ∧ c.run.state = .idle ∧ c.port.result = .closed .aborted ∧ (aborting 1).configFault = false
      ∧ left (hear (.hold ⟨1, 1⟩) (aborting 1)) = (.stopping, none, some false, false)
      ∧ (hear (.hold ⟨1, 1⟩) (atRest (aborting 1))).run.state = .idle
      ∧ left (hear (.hold ⟨1, 1⟩) (aborting 4)) = (.stopping, none, some false, false) := by decide +kernel

/-- The DRIVE in HELD resumes at its last hold's end with RUN_GO and RESUMED of value 2, by RELEASE, by a RELEASE frame and by a STATUS
with a clear hold flag (R147, R148, R155). -/
theorem witness_drive_resumes :
    let held (i : Slot) : State :=
      gentle (manned (withRun (fun r => { r with holds := setAt r.holds i (some false) }) (placed 0 (follower 1 .held))))
    let resumed (t : State) : Prop := t.run.state = .moving ∧ (t.port.queue.any fun e => e.kind == .resumed && e.value == 2) = true
      ∧ (t.line1.queue.any fun g => g.body == .runGo ⟨1, 1⟩ 0 20000) = true ∧ t.tripAsserted = false
    (held 1).rolesFilled = true ∧ (held 2).rolesFilled = true ∧ (held 1).run.run.abortPending = false
      ∧ (held 1).firstPending = some ⟨20000, .halt, 6000, .pending⟩ ∧ resumed (after .release (held 1))
      ∧ resumed (hear (.release ⟨1, 1⟩) (held 2))
      ∧ resumed (hear (.status { peerStatus 2 with runId := some ⟨1, 1⟩, runState := .held }) (held 2)) := by decide +kernel

/-- The DRIVE in ARRIVED closes at a sample within W of the terminal, with RUN_CLOSE and RUN_CLOSED of ARRIVED; from DWELL with every
consent it starts the next leg with RUN_GO and RUN_COMMITTED (R114, R115). -/
theorem witness_arrival_and_next_leg :
    let sample (s : State) : State := after (.sampleTimerExpiry 0) s
    let arrived (short : Int) : State := { arriving short true with run := { (arriving short true).run with state := .arrived } }
    let agrees (role : Fin 8) : PeerRecord :=
      { present role with contents := some { peerStatus role with runId := some ⟨1, 1⟩, consent := some 2, runState := .dwell } }
    let s := gentle (follower 1 .moving)
    let leg := viewed { s with
      peers := setAt (setAt (setAt s.peers 2 (agrees 2)) 3 (agrees 3)) 4 (agrees 4), sup := ⟨some (20000, 0), [], 0⟩
      pos := { s.pos with um := 20000000, x := 20000, standstill := true, quality := .confirmed, ring := [(20000, 900)] } }
    let t := sample leg
    let closes (t : State) : Bool := t.line1.queue.any fun g => g.body == .runClose ⟨1, 1⟩ .arrived
    let closed (t : State) : Bool := t.port.queue.any fun e => e.kind == .runClosed && e.value == 1
    (arrived 150).pos.sampleTimer.isSome = true ∧ (sample (arrived 150)).run.state = .idle ∧ closes (sample (arrived 150)) = true
      ∧ closed (sample (arrived 150)) = true ∧ (sample (arrived 151)).run.state = .arrived
      ∧ closes (sample (arriving 150 true)) = true ∧ closed (sample (arriving 150 true)) = true
      ∧ t.run.state = .moving ∧ t.run.run.leg = 1 ∧ t.tripAsserted = false
      ∧ (t.line1.queue.any fun g => g.body == .runGo ⟨1, 1⟩ 1 60000) = true
      ∧ (t.port.queue.any fun e => e.kind == .runCommitted && e.value == 258) = true := by decide +kernel

/-- A required role lost from STALE raises the own hold flag, and the HOLD frame goes out (R145, R149). -/
theorem witness_implicit_hold_frame :
    let s := (placed 0 (follower 4 .dwell)).setPeer 2 { present 2 with state := .stale }
    (s.peer 2).lostTimer.isSome = true ∧ s.holdFlag = false ∧ s.run.run.holds.get 2 = none
      ∧ (after (.lostTimerExpiry 2) s).run.run.holds.get 2 = some true
      ∧ ((after (.lostTimerExpiry 2) s).line1.queue.any fun g => g.body == .hold ⟨1, 1⟩) = true := by decide +kernel

/-- The load in use: the own one at the car, and elsewhere the fresh load of a PRESENT record (R78). -/
theorem witness_load_in_use :
    let loaded (fresh : Bool) (state : RecState) : State := (station 4).setPeer 2
      { present 2 with state := state, contents := some { peerStatus 2 with load := 700, loadFresh := fresh } }
    let own (fresh : Bool) : State := { station 2 with car := { (station 2).car with load := 500, loadFresh := fresh } }
    (loaded true .present).loadInUse .carA = some 700 ∧ (loaded false .present).loadInUse .carA = none
      ∧ (loaded true .stale).loadInUse .carA = none ∧ (loaded true .present).loadInUse .carB = none
      ∧ (own true).loadInUse .carA = some 500 ∧ (own false).loadInUse .carA = none := by decide +kernel

/-- ADD_STOP between two entries, and the LOOP entry placed and merged, on an UP and on a DOWN run; T_disp starts anew (R81, R89). -/
theorem witness_insertion :
    let listed (role : Fin 8) (kind : RunKind) (dir : Dir) (xs : List Int) : State :=
      let s := manned (placed (if dir = .up then 100 else 59900) (holding role kind .dispatch))
      withRun (fun r => { r with
        hdr := some ⟨⟨1, 1⟩, kind, dir⟩, dispatchTimer := some 0, stops := xs.map fun x => ⟨x, .halt, 6000, .pending⟩ }) s
    let stops (t : State) : List (Int × StopKind) := t.run.run.stops.map fun e => (e.pos, e.kind)
    let added (dir : Dir) (xs : List Int) : State := after .addHalt (withParams (listed 4 .inspection dir xs) 20000 0 0 0)
    let heard (dir : Dir) (xs : List Int) : State := hear (.addStop ⟨1, 1⟩ 20000) (listed 4 .inspection dir xs)
    let looped (dir : Dir) (xs : List Int) : State := after .callLoop (listed 4 .service dir xs)
    [stops (added .up [10000, 40000, 60000]), stops (heard .up [10000, 40000, 60000])]
        = List.replicate 2 [(10000, .halt), (20000, .halt), (40000, .halt), (60000, .halt)]
      ∧ [stops (added .down [40000, 10000, 0]), stops (heard .down [40000, 10000, 0])]
        = List.replicate 2 [(40000, .halt), (20000, .halt), (10000, .halt), (0, .halt)]
      ∧ stops (looped .up [60000]) = [(30150, .loop), (60000, .halt)] ∧ stops (looped .down [0]) = [(30150, .loop), (0, .halt)]
      ∧ stops (looped .up [30000, 60000]) = [(30000, .halt), (60000, .halt)]
      ∧ [added .up [60000], heard .up [60000], looped .up [60000]].map (fun t => (t.run.run.dispatchTimer, t.tripAsserted))
        = List.replicate 3 (startTimer params.tDisp, false) := by decide +kernel

/-- RUN_GO at a car with its door open trips with DOOR, at the start of a run, of the next leg and at a resume (R170). -/
theorem witness_motion_with_the_door_open :
    let heard (st : RunState) : State := { follower 2 st with peers := setAt (station 2).peers 2 (present 1) }
    let t (st : RunState) (leg : Nat) (target : Int) : State := hear (.runGo ⟨1, 1⟩ leg target) (heard st)
    let closed (st : RunState) : State := { heard st with pins := { PlantPins.none with doorClosed := true } }
    (heard .held).run.run.startedBy = none ∧ (heard .dwell).pins.doorClosed = false
      ∧ [t .dispatch 0 20000, t .awaitGo 0 20000, t .dwell 1 60000, t .held 0 20000].map (fun t => (t.trips.latch, t.run.state))
        = List.replicate 4 (some .door, .tripped)
      ∧ (hear (.runGo ⟨1, 1⟩ 0 20000) (closed .awaitGo)).run.state = .moving := by decide +kernel

/-- Under an invalid role code the outputs stay safe in operation (R193). -/
theorem witness_invalid_role :
    let s := { station 6 with outputs := Outputs.safe }
    s.invalidRoleSafe ∧ s.phase = .running ∧ s.role = none ∧ (after (.sampleTimerExpiry 40) s).outputs = Outputs.safe
      ∧ ∃ t, step { s with pending := [.sampleTimerExpiry 40] } = .next t := by
  refine ⟨?_, by decide, by decide, by decide +kernel, _, rfl⟩
  unfold State.invalidRoleSafe; decide

/-- A frame originated in the listen period is discarded (R45). -/
theorem witness_listen_period :
    let s := { station 4 with loader := { (station 4).loader with listenTimer := some 5 } }
    let t := after .trip s
    s.listening = true ∧ t.listening = true ∧ t.line1.queue = [] ∧ t.trips.latch = some .localTrip
      ∧ (after .trip (station 4)).line1.queue ≠ [] := by decide +kernel

/-- A DRIVE whose consents do not all match waits when the window ends (R90, R97, R98). -/
theorem witness_window_ends_without_consents :
    let s := gentle (manned (placed 0 (timers (follower 1 .dispatch))))
    let t := after .dispatchTimerExpiry s
    s.rolesFilled = true ∧ s.neededSlots ≠ [] ∧ (∃ i ∈ s.neededSlots, s.consentMatches (s.run.run.consents.get i) = false)
      ∧ t.run.state = .awaitGo ∧ t.run.run.consentTimer = startTimer s.params.tConsent ∧ t.commitReady = false
      ∧ t.tripAsserted = false := by decide +kernel

/-- A block that one PRESENT record does not prove is limited to v_insp by the DRIVE's combined mask (R14, R19). -/
theorem witness_drive_limit :
    let s := { station 1 with profile := { (station 1).profile with proof := 7 } }
    let shown (state : RecState) (proof : BitVec 64) : State := s.setPeer 3
      { present 2 with state := state, contents := some { peerStatus 2 with proof := proof } }
    s.driveLimit 2 = 6000 ∧ (shown .present 3).driveLimit 2 = s.params.vInsp ∧ (shown .present 3).limit 2 = 6000
      ∧ (shown .stale 3).driveLimit 2 = 6000 ∧ (shown .present 7).driveLimit 2 = 6000 := by decide +kernel

/-! ### Transfers at the station port (R177, R198) -/

theorem test_seven_parameter_words_are_ignored :
    after (.writeParam [1, 2, 3, 4, 5, 6, 7]) (withParams (station 4) 1 2 3 4) = withParams (station 4) 1 2 3 4 := by decide +kernel

/-- A word as the port samples it, bit 31 first. -/
def bitsOf (w : Nat) : List Bool := (List.range 32).map fun i => w.testBit (31 - i)

set_option maxRecDepth 4000 in
theorem test_write_command_transfer :
    decodeTransfer (bitsOf 0x02000000 ++ bitsOf 12) = some .resetTrip
      ∧ decodeTransfer (bitsOf 0x02000000 ++ bitsOf 14) = some (.unknownCommand 14) := by decide
set_option maxRecDepth 4000 in
theorem test_write_param_and_view_transfers :
    decodeTransfer (bitsOf 0x01000000 ++ bitsOf 7 ++ bitsOf 0xfffffff8) = some (.writeParam [7, 0xfffffff8])
      ∧ decodeTransfer (bitsOf 0x05000000 ++ bitsOf 0x03000002) = some (.readView 0x03000002)
      ∧ decodeTransfer (bitsOf 0x03000000) = some .readResult ∧ decodeTransfer (bitsOf 0x04000000) = some .readEvent := by decide
set_option maxRecDepth 4000 in
theorem test_transfers_that_spell_none :
    decodeTransfer (bitsOf 0x02000001 ++ bitsOf 12) = none ∧ decodeTransfer (bitsOf 0x03000000 ++ [true]) = none
      ∧ decodeTransfer (bitsOf 0x06000000) = none ∧ decodeTransfer [] = none
      ∧ decodeTransfer ((List.replicate 8 0x01000000).flatMap bitsOf) = none := by decide
/-- The bits of a result reply on data out: UNREAD and DONE of UNPROVE_ALL, bit 31 first; a read cut at a word's end (R177, R198). -/
theorem test_reply_bits :
    let p := (after .readResult (after .unproveAll (station 4))).port
    let e := (after .readEvent (after .unproveAll (station 4))).port
    p.dataOut = bitsOf 0x40000d01 ∧ (e.dataOut.length, portWords (e.dataOut.take 32)) = (128, e.reply.map fun r => r.words.take 1)
      ∧ (station 4).port.dataOut = [] := by decide +kernel
theorem witness_views :
    (0x01000000 : Word32).toNat / 16777216 = 1 ∧ (0x02000002 : Word32).toNat / 16777216 = 2
      ∧ (0x02000002 : Word32).toNat % 16777216 = (2 : Slot).val ∧ (2 : Slot) ≠ (station 1).ownSlot
      ∧ ((manned (station 1)).peer 2).state ≠ .absent ∧ ((manned (station 1)).peer 2).contents = some (peerStatus 2)
      ∧ (0x04000000 : Word32).toNat / 16777216 = 4 ∧ (0x05000000 : Word32).toNat / 16777216 = 5
      ∧ (0x06000000 : Word32).toNat / 16777216 = 6 ∧ (station 1).isDrive = true ∧ (station 4).isDrive = false
      ∧ (station 1).hasEstimate = true ∧ (0x0000000d : Word32).toNat % 256 = (12 : Fin 13).val + 1 := by decide +kernel

end Sys2Proof.Tests
end

section
/-! PROOFS. Position measurement (chapter 2): the speed over the ring (R23) and the standstill rule (R24). -/

open Sys2Proof Sys2Proof.Machine

namespace Sys2Proof.Machine

variable {s : State}

/-! ### The speed over a ring (R23) -/

theorem ringSpeed_of_short {ring : List (Int × Word32)} (short : ring.length < 2) : ringSpeed ring = 0 := by
  match ring, short with
  | [], _ => rfl
  | [_], _ => rfl

/-- Only the two ends of a ring enter its speed. -/
theorem ringSpeed_of_ends (oldest newest : Int × Word32) (mid : List (Int × Word32)) :
    ringSpeed (oldest :: (mid ++ [newest]))
      = clampTo (-15000) 15000 (((newest.1 - oldest.1) * 1000).tdiv (max 1 (elapsed newest.2 oldest.2))) := by
  cases mid with
  | nil => rfl
  | cons b rest =>
    have ends : (b :: (rest ++ [newest])).getLastD b = newest := by
      rw [← List.cons_append, List.getLastD_concat]
    simp only [List.cons_append, ringSpeed, ends]

/-! ### The standstill rule (R24) -/

section StandstillRule
variable {p : Params} {pos : Pos}

theorem standstillAfter_of_short (short : pos.ring.length < 2) : standstillAfter p pos = pos := if_pos short

theorem standstillAfter_of_fast (long : 2 ≤ pos.ring.length) (fast : p.vStill < magnitude pos.v) :
    standstillAfter p pos = { pos with standstill := false, standTimer := none } := by
  rw [standstillAfter, if_neg (by omega), if_pos fast]

theorem standstillAfter_of_slow_stopped (long : 2 ≤ pos.ring.length) (slow : magnitude pos.v ≤ p.vStill)
    (stopped : pos.standTimer = none) (clear : pos.standstill = false) :
    standstillAfter p pos = { pos with standTimer := startTimer p.tStill } := by
  rw [standstillAfter, if_neg (by omega), if_neg (by omega), if_pos (by simp [stopped, clear])]

theorem standstillAfter_of_slow_standing (long : 2 ≤ pos.ring.length) (slow : magnitude pos.v ≤ p.vStill)
    (standing : pos.standTimer ≠ none ∨ pos.standstill = true) : standstillAfter p pos = pos := by
  have starts : ¬(pos.standTimer.isNone && !pos.standstill) = true := by
    rcases standing with timed | set
    · simp [timed]
    · simp [set]
  rw [standstillAfter, if_neg (by omega), if_neg (by omega), if_neg starts]

/-- The rule moves the flag and its timer alone. -/
theorem standstillAfter_frame : ∃ flag timer, standstillAfter p pos = { pos with standstill := flag, standTimer := timer } := by
  unfold standstillAfter
  split_ifs
  · exact ⟨_, _, rfl⟩
  · exact ⟨_, _, rfl⟩
  · exact ⟨pos.standstill, _, rfl⟩
  · exact ⟨_, _, rfl⟩

@[simp] theorem standstillAfter_ring : (standstillAfter p pos).ring = pos.ring := by
  obtain ⟨flag, timer, h⟩ := standstillAfter_frame (p := p) (pos := pos)
  rw [h]

@[simp] theorem standstillAfter_v : (standstillAfter p pos).v = pos.v := by
  obtain ⟨flag, timer, h⟩ := standstillAfter_frame (p := p) (pos := pos)
  rw [h]

/-- The rule does not look at the quality. -/
theorem standstillAfter_withQuality (q : Quality) :
    standstillAfter p { pos with quality := q } = { standstillAfter p pos with quality := q } := by
  unfold standstillAfter
  dsimp only
  split_ifs <;> rfl

end StandstillRule

/-! ### The position after a sample (R21) -/

/-- What a sample hands to the standstill rule: count, x, ring and speed taken, with the quality the sample leaves. -/
def State.sampledPos (s : State) (count : Word32) (q : Quality) : Pos :=
  let um := s.distanceAt count
  let x := s.toMillimetres um
  let ring := ringPush s.pos.ring (x, s.clock)
  { s.pos with um := um, lastCount := count, x := x, ring := ring, v := ringSpeed ring, quality := q }

@[simp] theorem State.sampledPos_v (count : Word32) (q : Quality) :
    (s.sampledPos count q).v = ringSpeed (s.sampledPos count q).ring := rfl

theorem takeCount_pos (count : Word32) :
    (takeCount count s).pos = standstillAfter s.params (s.sampledPos count s.pos.quality) := rfl

/-- Of the position, the confirmation by the two cars changes at most the quality (R29). -/
theorem confirmDrive_pos : ∃ q, (confirmDrive s).pos = { s.pos with quality := q } := by
  unfold confirmDrive
  split
  · exact ⟨.confirmed, rfl⟩
  · exact ⟨s.pos.quality, rfl⟩

/-- The last part of a sample, which the DRIVE alone has (R107, R112, R117), settles. -/
theorem settled_driveSampleAtDrive : Settled s (if s.isDrive then driveSample s else s) := by
  split
  · exact settled_driveSample
  · exact .refl s

/-- After a sample the position is the one its count gives, under the standstill rule: all that follows the count settles, but for
the confirmation of R29, which leaves some quality q. -/
theorem takeSample_pos (count : Word32) (healthy : s.configFault = false) :
    ∃ q, (takeSample count s).pos = standstillAfter s.params ((restartSample count s).sampledPos count q) := by
  have healthy' : (restartSample count s).configFault = false := healthy
  unfold takeSample
  simp only [healthy', Bool.false_eq_true, if_false]
  generalize counted : reevaluateIfChanged (restartSample count s) (takeCount count (restartSample count s)) = a
  generalize tested : reevaluateIfChanged a (missTest 2 a) = b
  have countedPos : b.pos = (takeCount count (restartSample count s)).pos := by
    rw [← tested, ← counted]
    exact ((settled_reevaluateIfChanged _).trans ((settled_missTest 2 _).trans (settled_reevaluateIfChanged _))).pos
  obtain ⟨q, confirmed⟩ := confirmDrive_pos (s := b)
  have handed : Settled (confirmDrive b) (recompute (handEstimate (confirmDrive b))) :=
    settled_handEstimate.trans settled_recompute
  refine ⟨q, ?_⟩
  calc _ = (confirmDrive b).pos := (handed.trans settled_driveSampleAtDrive).pos
    _ = { (takeCount count (restartSample count s)).pos with quality := q } := by rw [confirmed, countedPos]
    _ = standstillAfter s.params ((restartSample count s).sampledPos count q) := by
      rw [takeCount_pos]
      exact (standstillAfter_withQuality q).symm

/-- In operation without a configuration fault a sample answers a state whose position is the one just taken, under the
standstill rule. -/
theorem exec_sampleTimerExpiry_pos (count : Word32) (running : s.phase = .running) (healthy : s.configFault = false)
    (timed : s.pos.sampleTimer.isSome = true) :
    ∃ t q, exec (.sampleTimerExpiry count) s = .next t
      ∧ t.pos = standstillAfter s.params ((restartSample count s).sampledPos count q) := by
  obtain ⟨q, taken⟩ := takeSample_pos count healthy
  have next : exec (.sampleTimerExpiry count) s = .next (finishWith true s (takeSample count s)) := by
    show execSampleTimerExpiry count s = _
    rw [execSampleTimerExpiry, if_pos ⟨running, timed⟩]
  exact ⟨_, q, next, (settled_finishWith true s).pos.trans taken⟩

/-! ### The standstill flag outside samples -/

/-- The switch of R27 leaves the standstill flag and its timer. -/
theorem startSwitch_stand : (startSwitch s).pos.standstill = s.pos.standstill
    ∧ (startSwitch s).pos.standTimer = s.pos.standTimer := by
  unfold startSwitch
  split_ifs
  · exact ⟨rfl, rfl⟩
  · exact ⟨rfl, rfl⟩
  · exact ⟨rfl, rfl⟩

/-- With an accepted image, what follows the switch at start-up settles. -/
theorem settled_completeAccepted : Settled (startSwitch s) (completeAccepted s) := by
  unfold completeAccepted
  dsimp only
  refine Settled.trans ?_ settled_sendStatus
  split
  · exact settled_recompute.trans (settled_latchTrip _)
  · exact settled_recompute

theorem completeFaulted_pos (f : ConfigFault) : (completeFaulted f s).pos = s.pos :=
  (((settled_onEnv _).trans (settled_latchTrip _)).trans ((settled_pushEvent _ _ _ _).trans settled_sendStatus)).pos

/-- Start-up leaves the flag clear and its timer stopped, whatever the image (R192). -/
theorem startUpComplete_stand (img : List Byte) (pins : PlantPins) :
    (startUpComplete img pins s).pos.standstill = false ∧ (startUpComplete img pins s).pos.standTimer = none := by
  unfold startUpComplete
  dsimp only
  rw [(settled_finishWith _ _).pos]
  split
  · rw [completeFaulted_pos]
    exact ⟨rfl, rfl⟩
  · rw [settled_completeAccepted.pos]
    exact startSwitch_stand

/-- The expiry of T_still while it runs sets the flag and stops the timer; its reactions change neither. -/
theorem exec_standstillTimerExpiry_settled (running : s.phase = .running) (timed : s.pos.standTimer.isSome = true) :
    ∃ t, exec .standstillTimerExpiry s = .next t
      ∧ Settled { s with pos := { s.pos with standstill := true, standTimer := none } } t := by
  refine event_settled endStandTimer running ?_
  rw [endStandTimer, if_pos timed]
  exact .refl _

end Sys2Proof.Machine

/-! ### The obligations -/

/-- Settles O19: the position after a sample is the one the ring gives, and the speed of a ring depends on its two ends. -/
theorem speedIsTheRingQuotient : Obligations.SpeedIsTheRingQuotient := by
  refine ⟨fun s count running healthy timed => ?_, fun _ _ _ => ⟨rfl, rfl⟩⟩
  obtain ⟨t, q, next, pos⟩ := exec_sampleTimerExpiry_pos count running healthy timed
  have speed : t.pos.v = ringSpeed t.pos.ring := by simp [pos]
  refine ⟨t, next, fun short => ?_, fun oldest mid newest ends => ?_⟩
  · rw [speed, ringSpeed_of_short short]
  · rw [speed, ends, ringSpeed_of_ends]
    rfl

/-- Settles O20, clause by clause: start-up, the cases of the standstill rule at a sample, the expiry, and the two readers of the
flag. -/
theorem standstillFollowsSpeedAndTimer : Obligations.StandstillFollowsSpeedAndTimer := by
  refine ⟨fun s img pins loading => ?startUp, fun s count running healthy timed => ?sample,
    fun s running timed => exec_standstillTimerExpiry_settled running timed,
    fun s estimate => by simp [State.formStatus, estimate], fun s drive => if_pos drive⟩
  case startUp =>
    have next : exec (.startUpComplete img pins) s = .next (startUpComplete img pins s) := by
      show execStartUpComplete img pins s = _
      rw [execStartUpComplete, if_pos loading]
    exact ⟨_, next, startUpComplete_stand img pins⟩
  case sample =>
    obtain ⟨t, q, next, pos⟩ := exec_sampleTimerExpiry_pos count running healthy timed
    refine ⟨t, next, ?_⟩
    rw [pos, standstillAfter_ring, standstillAfter_v]
    refine ⟨fun short => ?_, fun long fast => ?_, fun long slow stopped clear => ?_, fun long slow standing => ?_⟩
    · rw [standstillAfter_of_short short]
      exact ⟨rfl, rfl⟩
    · rw [standstillAfter_of_fast long fast]
      exact ⟨rfl, rfl⟩
    · rw [standstillAfter_of_slow_stopped long slow stopped clear]
      exact ⟨clear, rfl⟩
    · rw [standstillAfter_of_slow_standing long slow standing]
      exact ⟨rfl, rfl⟩
end

section
/-! PROOFS. The check of a frame and of the image (R44): what the two running sums are, and when a check passes. -/

open Sys2Proof Sys2Proof.Machine

namespace Sys2Proof.Machine

/-! ### The two running sums -/

/-- One more byte is one more step of the sums (R44). -/
theorem runningSums_append_singleton (bs : List Byte) (b : Byte) :
    runningSums (bs ++ [b]) = sumStep (runningSums bs) b := by
  rw [runningSums, List.foldl_append]
  rfl

/-- Each sum is a remainder modulo 255, so the byte that carries it cuts nothing off. -/
theorem runningSums_lt (bs : List Byte) : (runningSums bs).1 < 255 ∧ (runningSums bs).2 < 255 := by
  induction bs using List.reverseRecOn with
  | nil => decide
  | append_singleton bs b _ =>
    rw [runningSums_append_singleton]
    exact ⟨Nat.mod_lt _ (by decide), Nat.mod_lt _ (by decide)⟩

/-! ### The check -/

theorem byteOf_eq_iff {n : Nat} (fits : n < 256) (c : Byte) : byteOf n = c ↔ c.toNat = n := by
  rw [byteOf, ← BitVec.toNat_inj, BitVec.toNat_ofNat, Nat.mod_eq_of_lt fits, eq_comm]

/-- Two bytes are the check of a sequence exactly when they are its sums, as numbers. -/
theorem checkBytes_eq_pair_iff (bs : List Byte) (c d : Byte) :
    checkBytes bs = [c, d] ↔ c.toNat = (runningSums bs).1 ∧ d.toNat = (runningSums bs).2 := by
  obtain ⟨first, second⟩ := runningSums_lt bs
  rw [← byteOf_eq_iff (by omega) c, ← byteOf_eq_iff (by omega) d, checkBytes]
  simp

/-- A receiver compares the last two bytes with the check of the bytes before them (R44). -/
theorem checkPasses_append_pair (bs : List Byte) (c d : Byte) :
    checkPasses (bs ++ [c, d]) = true ↔ checkBytes bs = [c, d] := by
  have before : (bs ++ [c, d]).length - 2 = bs.length := by simp
  rw [checkPasses, before, List.take_left, List.drop_left, beq_iff_eq]

end Sys2Proof.Machine

/-! ### The obligation -/

/-- Settles O13: the sums go byte by byte, and a check passes exactly when it equals them, for both are below 255. What the sender
places and what the loader forms for the profile identity are those sums by definition. -/
theorem checkIsTheTwoRunningSums : Obligations.CheckIsTheTwoRunningSums := by
  refine ⟨rfl, fun bs b => ?oneMoreByte, fun _ _ _ => rfl, fun bs c d => ?receiver, fun _ => rfl⟩
  case oneMoreByte => rw [runningSums_append_singleton, sumStep]
  case receiver => rw [checkPasses_append_pair, checkBytes_eq_pair_iff]
end

section
/-! PROOFS. The supervision estimate (R73): the least and the greatest of a list, the speed of largest magnitude, and what `formSup`
forms of them. -/

open Sys2Proof Sys2Proof.Machine

namespace Sys2Proof.Machine

/-! ### The least and the greatest of a list -/

section Extremes
variable {xs : List Int}

theorem max?_eq_listMax (nonempty : xs ≠ []) : xs.max? = some (listMax xs) := by
  obtain ⟨x, rest, rfl⟩ := List.exists_cons_of_ne_nil nonempty
  rfl

theorem min?_eq_listMin (nonempty : xs ≠ []) : xs.min? = some (listMin xs) := by
  obtain ⟨x, rest, rfl⟩ := List.exists_cons_of_ne_nil nonempty
  rfl

theorem listMax_mem (nonempty : xs ≠ []) : listMax xs ∈ xs := List.max?_mem (max?_eq_listMax nonempty)

theorem listMin_mem (nonempty : xs ≠ []) : listMin xs ∈ xs := List.min?_mem (min?_eq_listMin nonempty)

theorem le_listMax {x : Int} (mem : x ∈ xs) : x ≤ listMax xs :=
  (List.max?_eq_some_iff.mp (max?_eq_listMax (List.ne_nil_of_mem mem))).2 x mem

theorem listMin_le {x : Int} (mem : x ∈ xs) : listMin xs ≤ x :=
  (List.min?_eq_some_iff.mp (min?_eq_listMin (List.ne_nil_of_mem mem))).2 x mem

end Extremes

/-! ### The speed of largest magnitude -/

/-- `u` is of smaller magnitude than `v`, or of the same and not the positive one of the two (R73). -/
def AtMostAsFast (u v : Int) : Prop := magnitude u < magnitude v ∨ (magnitude u = magnitude v ∧ u ≤ v)

theorem AtMostAsFast.refl (v : Int) : AtMostAsFast v v := .inr ⟨rfl, le_refl v⟩

theorem AtMostAsFast.trans {u v w : Int} (uv : AtMostAsFast u v) (vw : AtMostAsFast v w) : AtMostAsFast u w := by
  unfold AtMostAsFast at *
  omega

theorem AtMostAsFast.magnitude_le {u v : Int} (uv : AtMostAsFast u v) : magnitude u ≤ magnitude v := by
  unfold AtMostAsFast at uv
  omega

theorem AtMostAsFast.le_of_magnitude_eq {u v : Int} (uv : AtMostAsFast u v) (eq : magnitude u = magnitude v) : u ≤ v := by
  unfold AtMostAsFast at uv
  omega

theorem AtMostAsFast.eq_zero {u : Int} (slow : AtMostAsFast u 0) : u = 0 := by
  unfold AtMostAsFast magnitude at slow
  omega

/-- One more speed replaces the fastest so far, which it beats, or leaves it, being at most as fast. -/
theorem fastest_append_singleton (vs : List Int) (v : Int) :
    (fastest (vs ++ [v]) = v ∧ AtMostAsFast (fastest vs) v)
      ∨ (fastest (vs ++ [v]) = fastest vs ∧ AtMostAsFast v (fastest vs)) := by
  simp only [fastest, List.foldl_append, List.foldl_cons, List.foldl_nil, AtMostAsFast]
  split_ifs <;> omega

/-- The fastest is one of the speeds, or the 0 it starts from, and each of these is at most as fast. -/
theorem fastest_greatest (vs : List Int) : fastest vs ∈ 0 :: vs ∧ ∀ u ∈ 0 :: vs, AtMostAsFast u (fastest vs) := by
  induction vs using List.reverseRecOn with
  | nil => simp [fastest, AtMostAsFast.refl]
  | append_singleton vs v ih =>
    obtain ⟨mem, slower⟩ := ih
    simp only [← List.cons_append, List.mem_append, List.mem_singleton]
    obtain ⟨taken, beaten⟩ | ⟨kept, slow⟩ := fastest_append_singleton vs v
    · rw [taken]
      refine ⟨.inr rfl, ?_⟩
      rintro u (old | rfl)
      · exact (slower u old).trans beaten
      · exact .refl u
    · rw [kept]
      refine ⟨.inl mem, ?_⟩
      rintro u (old | rfl)
      · exact slower u old
      · exact slow

theorem atMostAsFast_fastest {vs : List Int} {v : Int} (mem : v ∈ vs) : AtMostAsFast v (fastest vs) :=
  (fastest_greatest vs).2 v (.tail 0 mem)

/-- The fastest of some speeds is one of them: where it is the starting 0, they are all 0. -/
theorem fastest_mem {vs : List Int} (nonempty : vs ≠ []) : fastest vs ∈ vs := by
  obtain zero | mem := List.mem_cons.mp (fastest_greatest vs).1
  · obtain ⟨v, mem⟩ := List.exists_mem_of_ne_nil vs nonempty
    have slow := atMostAsFast_fastest mem
    rw [zero] at slow ⊢
    exact slow.eq_zero ▸ mem
  · exact mem

/-! ### The estimate formed -/

section FormSup
variable {es : List Entered}

theorem formSup_up_est (nonempty : es ≠ []) :
    (formSup (some .up) es).est = some (listMax (es.map (·.x)), magnitude (fastest (es.map (·.v)))) := by
  obtain ⟨e, rest, rfl⟩ := List.exists_cons_of_ne_nil nonempty
  rfl

theorem formSup_down_est (nonempty : es ≠ []) :
    (formSup (some .down) es).est = some (listMin (es.map (·.x)), -magnitude (fastest (es.map (·.v)))) := by
  obtain ⟨e, rest, rfl⟩ := List.exists_cons_of_ne_nil nonempty
  rfl

/-- x_sup with no run: the drive's position where it entered, else the largest. -/
def driveElseLargest (es : List Entered) : Int :=
  ((es.find? fun e => e.role == .drive).map (·.x)).getD (listMax (es.map (·.x)))

theorem formSup_none_est (nonempty : es ≠ []) :
    (formSup none es).est = some (driveElseLargest es, fastest (es.map (·.v))) := by
  obtain ⟨e, rest, rfl⟩ := List.exists_cons_of_ne_nil nonempty
  rfl

theorem driveElseLargest_of_drive {e : Entered} (found : es.find? (fun e => e.role == .drive) = some e) :
    driveElseLargest es = e.x := by
  rw [driveElseLargest, found]
  rfl

theorem driveElseLargest_of_absent (absent : ∀ e ∈ es, e.role ≠ .drive) : driveElseLargest es = listMax (es.map (·.x)) := by
  have missing : es.find? (fun e => e.role == .drive) = none := by simpa using absent
  rw [driveElseLargest, missing]
  rfl

theorem formSup_spread (dir : Option Dir) (nonempty : es ≠ []) :
    (formSup dir es).spread = listMax (es.map (·.x)) - listMin (es.map (·.x)) := by
  obtain ⟨e, rest, rfl⟩ := List.exists_cons_of_ne_nil nonempty
  rfl

theorem x_le_largest : ∀ e ∈ es, e.x ≤ listMax (es.map (·.x)) := fun _ mem => le_listMax (List.mem_map_of_mem mem)

theorem smallest_le_x : ∀ e ∈ es, listMin (es.map (·.x)) ≤ e.x := fun _ mem => listMin_le (List.mem_map_of_mem mem)

theorem atMostAsFast_of_entered : ∀ e ∈ es, AtMostAsFast e.v (fastest (es.map (·.v))) :=
  fun _ mem => atMostAsFast_fastest (List.mem_map_of_mem mem)

theorem exists_largest (nonempty : es ≠ []) : ∃ e ∈ es, e.x = listMax (es.map (·.x)) :=
  List.mem_map.mp (listMax_mem (by simpa using nonempty))

theorem exists_smallest (nonempty : es ≠ []) : ∃ e ∈ es, e.x = listMin (es.map (·.x)) :=
  List.mem_map.mp (listMin_mem (by simpa using nonempty))

theorem exists_fastest (nonempty : es ≠ []) : ∃ e ∈ es, e.v = fastest (es.map (·.v)) :=
  List.mem_map.mp (fastest_mem (by simpa using nonempty))

/-- The spread lies between two of the positions that entered, and all the others lie between them too. -/
theorem formSup_spread_attained (dir : Option Dir) (nonempty : es ≠ []) :
    ∃ lo ∈ es, ∃ hi ∈ es, (∀ e ∈ es, lo.x ≤ e.x ∧ e.x ≤ hi.x) ∧ (formSup dir es).spread = hi.x - lo.x := by
  obtain ⟨lo, loMem, least⟩ := exists_smallest nonempty
  obtain ⟨hi, hiMem, greatest⟩ := exists_largest nonempty
  refine ⟨lo, loMem, hi, hiMem, ?_⟩
  rw [least, greatest]
  exact ⟨fun e mem => ⟨smallest_le_x e mem, x_le_largest e mem⟩, formSup_spread dir nonempty⟩

end FormSup

end Sys2Proof.Machine

/-! ### The obligation -/

/-- Settles O26, by the direction of the run: each position and speed of the estimate is attained by one that entered and bounds the
rest, on the side that is least favourable in that direction. -/
theorem supervisionEstimateIsTheLeastFavourable : Obligations.SupervisionEstimateIsTheLeastFavourable := by
  refine ⟨fun _ => ⟨rfl, rfl⟩, fun dir es entered => ?_⟩
  have spread := formSup_spread_attained dir entered
  obtain ⟨f, fMem, fast⟩ := exists_fastest entered
  have slower (e : Entered) (mem : e ∈ es) := (atMostAsFast_of_entered e mem).magnitude_le
  match dir with
  | some .up =>
    refine ⟨_, _, formSup_up_est entered, fun _ => ?_, nofun, nofun, spread⟩
    exact ⟨exists_largest entered, x_le_largest, ⟨f, fMem, by rw [fast]⟩, slower⟩
  | some .down =>
    refine ⟨_, _, formSup_down_est entered, nofun, fun _ => ?_, nofun, spread⟩
    exact ⟨exists_smallest entered, smallest_le_x, ⟨f, fMem, by rw [fast]⟩, by simpa only [neg_neg] using slower⟩
  | none =>
    refine ⟨_, _, formSup_none_est entered, nofun, nofun, fun _ => ?_, spread⟩
    refine ⟨fun e => driveElseLargest_of_drive, fun absent => ?_, ⟨f, fMem, fast⟩, slower,
      fun e mem => (atMostAsFast_of_entered e mem).le_of_magnitude_eq⟩
    rw [driveElseLargest_of_absent absent]
    exact ⟨exists_largest entered, x_le_largest⟩
end

section
/-! PROOFS. The parameter words (R178): what WRITE_PARAM makes of them, and that every other command in operation but RESET_ASSERT
leaves them. What settles leaves them (`Settled`); the lemmas here say the same of the operations that a command itself performs. -/

open Sys2Proof Sys2Proof.Machine

namespace Sys2Proof.Machine

variable {a b s t : State}

/-! ### The write -/

/-- Word i is the i-th word of the transfer, where the transfer has one (R178). -/
theorem writeParams_get (ws : List Word32) (i : Fin 6) :
    (writeParams ws s).port.params.get i = ws.getD i.val (s.port.params.get i) := by
  match i with
  | 0 | 1 | 2 | 3 | 4 | 5 => rfl

/-- A write changes the words alone, and ATTN, which does not look at them, is driven anew. -/
theorem exec_writeParam_next (ws : List Word32) (running : s.phase = .running) (one : 1 ≤ ws.length) (six : ws.length ≤ 6) :
    exec (.writeParam ws) s = .next { s with
      port := { s.port with params := (writeParams ws s).port.params }, outputs := { s.outputs with attn := s.attnNow } } := by
  show execWriteParam ws s = _
  rw [execWriteParam, if_pos ⟨one, six⟩, portEvent_next _ running]
  rfl

theorem exec_writeParam_ignored (ws : List Word32) (length : ws.length = 0 ∨ 6 < ws.length) :
    exec (.writeParam ws) s = .next s := by
  show execWriteParam ws s = _
  rw [execWriteParam, if_neg (by omega)]

/-! ### Shared operations leave the words -/

theorem Settled.portParams (h : Settled a b) : b.port.params = a.port.params := congrArg Kept.params h.kept

@[simp] theorem pushEvent_portParams (kind : EventKind) (slot : Slot) (block : Option Nat) (value : Int) :
    (pushEvent kind slot block value s).port.params = s.port.params := (settled_pushEvent _ _ _ _).portParams

@[simp] theorem answer_portParams (r : Result) : (answer r s).port.params = s.port.params := rfl

@[simp] theorem takeSlot_portParams (code : Byte) : (takeSlot code s).port.params = s.port.params := by
  unfold takeSlot
  split
  · exact pushEvent_portParams _ _ _ _
  · rfl

@[simp] theorem startCommand_portParams (c : CommandName) : (startCommand c s).port.params = s.port.params :=
  takeSlot_portParams _

@[simp] theorem sendStatus_portParams : (sendStatus s).port.params = s.port.params := settled_sendStatus.portParams

@[simp] theorem originateRun_portParams (f : RunId → Body) (other : ∀ id st, f id ≠ .status st) :
    (originateRun f s).port.params = s.port.params := (settled_originateRun f other).portParams

@[simp] theorem latchTrip_portParams (k : TripCause) : (latchTrip k s).port.params = s.port.params :=
  (settled_latchTrip k).portParams

@[simp] theorem unproveBlock_portParams (k : Nat) (cause : UnproveCause) (slot : Slot) :
    (unproveBlock k cause slot s).port.params = s.port.params := (settled_unproveBlock _ _ _).portParams

@[simp] theorem unproveEvery_portParams (cause : Int) (slot : Slot) :
    (unproveEvery cause slot s).port.params = s.port.params := (settled_unproveEvery _ _).portParams

@[simp] theorem recompute_portParams : (recompute s).port.params = s.port.params := settled_recompute.portParams

@[simp] theorem reevaluate_portParams : (reevaluate s).port.params = s.port.params := settled_reevaluate.portParams

@[simp] theorem reevaluateIfChanged_portParams : (reevaluateIfChanged b s).port.params = s.port.params :=
  (settled_reevaluateIfChanged b).portParams

@[simp] theorem enterHold_portParams (i : Slot) (implicit : Bool) : (enterHold i implicit s).port.params = s.port.params :=
  (settled_enterHold _ _).portParams

@[simp] theorem removeHold_portParams (i : Slot) : (removeHold i s).port.params = s.port.params :=
  (settled_removeHold _).portParams

@[simp] theorem exitTripped_portParams : (exitTripped s).port.params = s.port.params := settled_exitTripped.portParams

@[simp] theorem snap_portParams (x : Int) (q : Quality) : (snap x q s).port.params = s.port.params := rfl

@[simp] theorem handEstimate_portParams : (handEstimate s).port.params = s.port.params := rfl

@[simp] theorem confirmDrive_portParams : (confirmDrive s).port.params = s.port.params := by
  unfold confirmDrive
  split <;> rfl

/-! ### The position unit leaves the words -/

@[simp] theorem restartSample_portParams (count : Word32) : (restartSample count s).port.params = s.port.params := rfl

@[simp] theorem takeCount_portParams (count : Word32) : (takeCount count s).port.params = s.port.params := rfl

@[simp] theorem missTest_portParams (n : Nat) : (missTest n s).port.params = s.port.params := (settled_missTest n s).portParams

@[simp] theorem takeSample_portParams (count : Word32) : (takeSample count s).port.params = s.port.params := by
  unfold takeSample
  dsimp only
  split
  · rfl
  · rw [settled_driveSampleAtDrive.portParams]
    simp

@[simp] theorem endStandTimer_portParams : (endStandTimer s).port.params = s.port.params := by
  unfold endStandTimer
  split <;> rfl

@[simp] theorem switchActive_portParams (sw : RefSwitch) (count : Word32) :
    (switchActive sw count s).port.params = s.port.params := by
  unfold switchActive
  dsimp only
  split
  · split
    · rfl
    · simp [settled_adjustReference.portParams]
  · rfl

@[simp] theorem switchInactive_portParams (sw : RefSwitch) : (switchInactive sw s).port.params = s.port.params := by
  unfold switchInactive
  split <;> rfl

@[simp] theorem markerMatch_portParams (e : Expected) (x : Int) : (markerMatch e x s).port.params = s.port.params := by
  unfold markerMatch
  dsimp only
  split <;> simp

@[simp] theorem takeMarker_portParams (code : Nat) (x : Int) : (takeMarker code x s).port.params = s.port.params := by
  unfold takeMarker
  split
  · split_ifs
    · rfl
    · simp
    · rfl
    · exact (settled_markerFault _ _ _).portParams
  · rfl

@[simp] theorem markerArrives_portParams (code : BitVec 6) (count : Word32) :
    (markerArrives code count s).port.params = s.port.params := by
  unfold markerArrives
  split
  · simp
  · rfl

@[simp] theorem compareFix_portParams (d : Detector) : (compareFix d s).port.params = s.port.params := by
  unfold compareFix
  dsimp only
  split
  · split_ifs <;> simp
  · rfl

@[simp] theorem timePassage_portParams (d : Detector) : (timePassage d s).port.params = s.port.params := by
  unfold timePassage
  dsimp only
  split
  · split_ifs <;> simp
  · rfl

@[simp] theorem detectorGoesActive_portParams (d : Detector) : (detectorGoesActive d s).port.params = s.port.params := by
  unfold detectorGoesActive
  dsimp only
  split_ifs <;> simp

@[simp] theorem pushDetectorFault_portParams (d : Detector) (value : Int) :
    (pushDetectorFault d value s).port.params = s.port.params := pushEvent_portParams _ _ _ _

@[simp] theorem detectorGoesInactive_portParams (d : Detector) :
    (detectorGoesInactive d s).port.params = s.port.params := by
  unfold detectorGoesInactive
  dsimp only
  split_ifs <;> simp

@[simp] theorem detectorStuck_portParams (d : Detector) : (detectorStuck d s).port.params = s.port.params := by
  unfold detectorStuck
  split <;> simp

@[simp] theorem setPosition_portParams : (setPosition s).port.params = s.port.params := by
  unfold setPosition
  dsimp only
  split_ifs <;> simp

/-! ### The line interface leaves the words -/

@[simp] theorem setIdle_portParams (l : LineId) (idle : Bool) : (setIdle l idle s).port.params = s.port.params := by
  simp [setIdle]

@[simp] theorem beginFrame_portParams (l : LineId) : (beginFrame l s).port.params = s.port.params := by
  unfold beginFrame
  dsimp only
  split
  · split <;> simp
  · rfl

@[simp] theorem completeFrame_portParams (l : LineId) : (completeFrame l s).port.params = s.port.params := by
  simp [completeFrame]

@[simp] theorem stopFrame_portParams (l : LineId) : (stopFrame l s).port.params = s.port.params := by
  simp [stopFrame]

@[simp] theorem pushLine_portParams (kind : EventKind) (l : LineId) : (pushLine kind l s).port.params = s.port.params :=
  pushEvent_portParams _ _ _ _

@[simp] theorem lineDown_portParams (l : LineId) : (lineDown l s).port.params = s.port.params := by
  simp [lineDown]

@[simp] theorem judgeOther_portParams (l : LineId) : (judgeOther l s).port.params = s.port.params := by
  unfold judgeOther
  dsimp only
  split
  · exact lineDown_portParams _
  · rfl

@[simp] theorem lineSilent_portParams (l : LineId) : (lineSilent l s).port.params = s.port.params := by
  unfold lineSilent
  dsimp only
  split_ifs <;> simp

@[simp] theorem hearLine_portParams (l : LineId) : (hearLine l s).port.params = s.port.params := by
  unfold hearLine
  dsimp only
  rw [judgeOther_portParams]
  split <;> simp

@[simp] theorem takeOwnSlot_portParams (l : LineId) : (takeOwnSlot l s).port.params = s.port.params := by
  unfold takeOwnSlot
  split <;> simp

/-! ### The peer table leaves the words -/

@[simp] theorem dropConsent_portParams (i : Slot) : (dropConsent i s).port.params = s.port.params := rfl

@[simp] theorem takeConsent_portParams (i : Slot) (st : Status) : (takeConsent i st s).port.params = s.port.params := by
  unfold takeConsent
  split <;> rfl

@[simp] theorem pushRecordEvent_portParams (i : Slot) (old : RecState) (cause : Exclusion) :
    (pushRecordEvent i old cause s).port.params = s.port.params := by
  unfold pushRecordEvent
  split_ifs <;> simp

@[simp] theorem excludeClaimants_portParams (i : Slot) (r : Role) :
    (excludeClaimants i r s).port.params = s.port.params := by
  unfold excludeClaimants
  refine List.foldlRecOn (motive := fun t : State => t.port.params = s.port.params) slots _ rfl fun t left j _ => ?_
  split
  · simpa using left
  · exact left

@[simp] theorem raiseRoleConflict_portParams (i : Slot) (r : Role) :
    (raiseRoleConflict i r s).port.params = s.port.params := by
  unfold raiseRoleConflict
  split <;> simp

@[simp] theorem clearRoleConflict_portParams (i : Slot) : (clearRoleConflict i s).port.params = s.port.params := by
  unfold clearRoleConflict
  split <;> simp

@[simp] theorem renewRecord_portParams (i : Slot) (st : Status) : (renewRecord i st s).port.params = s.port.params := by
  unfold renewRecord
  dsimp only
  rw [clearRoleConflict_portParams]
  split <;> simp

@[simp] theorem takeMarkerReport_portParams (old : PeerRecord) (i : Slot) (st : Status) :
    (takeMarkerReport old i st s).port.params = s.port.params := by
  unfold takeMarkerReport
  split
  · dsimp only
    generalize (if old.state = .absent ∨ old.state = .lost then none else old.contents.bind (·.faultBlock)) = held
    split
    · exact unproveBlock_portParams _ _ _
    · rfl
  · rfl

@[simp] theorem takeRestriction_portParams (i : Slot) (st : Status) :
    (takeRestriction i st s).port.params = s.port.params := by
  unfold takeRestriction
  split <;> rfl

@[simp] theorem enterOrigin_portParams (i : Slot) (c : TripCause) : (enterOrigin i c s).port.params = s.port.params := by
  unfold enterOrigin
  dsimp only
  rw [settled_enterTripped.portParams]
  split_ifs <;> simp

@[simp] theorem leaveOrigin_portParams (i : Slot) : (leaveOrigin i s).port.params = s.port.params := by
  unfold leaveOrigin
  split <;> simp

@[simp] theorem takeTripFlag_portParams (i : Slot) (st : Status) : (takeTripFlag i st s).port.params = s.port.params := by
  unfold takeTripFlag
  split <;> simp

@[simp] theorem takeHoldCleared_portParams (i : Slot) (st : Status) :
    (takeHoldCleared i st s).port.params = s.port.params := by
  unfold takeHoldCleared
  split <;> simp

@[simp] theorem takeHoldSet_portParams (i : Slot) (st : Status) : (takeHoldSet i st s).port.params = s.port.params := by
  unfold takeHoldSet
  split <;> simp

@[simp] theorem takeRunView_portParams (i : Slot) (st : Status) : (takeRunView i st s).port.params = s.port.params := by
  unfold takeRunView
  split
  · exact (settled_takeDriveView st i).portParams
  · rfl

@[simp] theorem takeAdoption_portParams (i : Slot) (st : Status) : (takeAdoption i st s).port.params = s.port.params := by
  unfold takeAdoption adoptPosition
  split_ifs
  · simp [settled_chooseAwaited.portParams]
  · rfl
  · rfl

@[simp] theorem takeParts_portParams (old : PeerRecord) (i : Slot) (st : Status) :
    (takeParts old i st s).port.params = s.port.params := by
  unfold takeParts
  dsimp only
  split <;> simp

@[simp] theorem takeStatus_portParams (i : Slot) (st : Status) : (takeStatus i st s).port.params = s.port.params := by
  simp [takeStatus, settled_followDemand.portParams]

@[simp] theorem deliver_portParams (i : Slot) (f : Body) : (deliver i f s).port.params = s.port.params := by
  by_cases settles : (∀ st, f ≠ .status st) ∧ ∀ c, f ≠ .trip c
  · exact (settled_deliver i f settles.1 settles.2).portParams
  · cases f with
    | status st => exact takeStatus_portParams i st
    | trip c => exact enterOrigin_portParams i c
    | _ => simp at settles

@[simp] theorem frameArrives_portParams (l : LineId) (bytes : List Byte) (delimited : Bool) :
    (frameArrives l bytes delimited s).port.params = s.port.params := by
  unfold frameArrives takeFrame
  dsimp only
  split
  · split_ifs <;> simp
  · simp

@[simp] theorem recordStale_portParams (i : Slot) : (recordStale i s).port.params = s.port.params := by
  unfold recordStale
  dsimp only
  split_ifs <;> simp

@[simp] theorem recordLost_portParams (i : Slot) : (recordLost i s).port.params = s.port.params := by
  unfold recordLost
  dsimp only
  split_ifs <;> simp

@[simp] theorem statusDue_portParams : (statusDue s).port.params = s.port.params := by
  unfold statusDue
  dsimp only
  split_ifs <;> simp

@[simp] theorem recomputationDue_portParams : (recomputationDue s).port.params = s.port.params := by
  unfold recomputationDue
  split <;> simp

@[simp] theorem loadLapses_portParams : (loadLapses s).port.params = s.port.params := by
  unfold loadLapses
  split <;> rfl

@[simp] theorem endListen_portParams : (endListen s).port.params = s.port.params := by
  unfold endListen
  split <;> simp

/-! ### The run controller leaves the words -/

/-- A timer of the run controller acts in one run state, and that one is not TRIPPED. -/
theorem not_tripped_of_inState_and {x : RunState} {timed : Bool} (h : (s.inState x && timed) = true) (other : x ≠ .tripped) :
    s.run.state ≠ .tripped := by
  obtain ⟨here, -⟩ := Bool.and_eq_true_iff.mp h
  simpa [beq_iff_eq.mp here] using other

/-- REQUEST_RUN opens no run in TRIPPED (R84). -/
theorem not_tripped_of_requestRefusal_none (d : Dir) (opens : s.requestRefusal d = none) : s.run.state ≠ .tripped := by
  intro tripped
  unfold State.requestRefusal at opens
  split_ifs at opens
  simp_all [State.inState]

theorem openRun_portParams (q : RunRequest) (untripped : s.run.state ≠ .tripped) :
    (openRun q s).port.params = s.port.params := by
  unfold openRun
  dsimp only
  rw [(settled_enterDispatch _ _ _ _ _).portParams, (settled_originate _ (by simp)).portParams]
  · rfl
  · rw [originate_run]
    exact untripped

@[simp] theorem requestRun_portParams : (requestRun s).port.params = s.port.params := by
  unfold requestRun
  split
  · rfl
  · next q _ =>
    split
    · rfl
    · next opens => exact openRun_portParams q (not_tripped_of_requestRefusal_none q.dir opens)

@[simp] theorem addHalt_portParams : (addHalt s).port.params = s.port.params := by
  unfold addHalt
  dsimp only
  split
  · simp [(settled_addHaltEntry _).portParams]
  · rfl

@[simp] theorem callLoop_portParams : (callLoop s).port.params = s.port.params := by
  unfold callLoop
  dsimp only
  split
  · simp
  · split
    · simp [(settled_addLoopEntry.trans settled_restartDispatch).portParams]
    · rfl

@[simp] theorem holdLine_portParams : (holdLine s).port.params = s.port.params := by
  unfold holdLine
  split_ifs
  · rfl
  · rfl
  · rfl
  · exact settled_enterOwnHold.portParams
  · exact settled_enterOwnHold.portParams

@[simp] theorem releaseLine_portParams : (releaseLine s).port.params = s.port.params := by
  unfold releaseLine
  split_ifs <;> simp

@[simp] theorem abortRun_portParams : (abortRun s).port.params = s.port.params := by
  unfold abortRun
  split_ifs with idle tripped
  · rfl
  · rfl
  · have untripped : (originateRun .abort
        (s.onRecord fun r => { r with abortPending := true, abortOrigin := true })).run.state ≠ .tripped := by
      rw [originateRun_run]
      simpa [State.inState] using tripped
    rw [(settled_takeAbort untripped).portParams]
    simp

@[simp] theorem confirmReady_portParams : (confirmReady s).port.params = s.port.params := by
  unfold confirmReady
  split_ifs <;> rfl

@[simp] theorem dispatchExpires_portParams : (dispatchExpires s).port.params = s.port.params := by
  unfold dispatchExpires
  split
  · next h => exact (settled_closeWindow (not_tripped_of_inState_and h (by decide))).portParams
  · rfl

@[simp] theorem consentExpires_portParams : (consentExpires s).port.params = s.port.params := by
  unfold consentExpires
  split
  · next h => exact (settled_closeByDrive _ (not_tripped_of_inState_and h (by decide))).portParams
  · rfl

@[simp] theorem goGuardExpires_portParams : (goGuardExpires s).port.params = s.port.params := by
  unfold goGuardExpires
  split
  · next h => exact (settled_endRun _ _ (not_tripped_of_inState_and h (by decide))).portParams
  · rfl

/-! ### The output stage leaves the words -/

@[simp] theorem doorChanges_portParams (closed : Bool) : (doorChanges closed s).port.params = s.port.params := by
  unfold doorChanges
  dsimp only
  split_ifs <;> simp

@[simp] theorem stageFeedback_portParams (st : Stage) (applied : Bool) :
    (stageFeedback st applied s).port.params = s.port.params := by
  unfold stageFeedback
  split <;> rfl

@[simp] theorem stageFails_portParams (st : Stage) : (stageFails st s).port.params = s.port.params := by
  unfold stageFails
  dsimp only
  split <;> simp

@[simp] theorem emergencyFeedback_portParams (applied : Bool) :
    (emergencyFeedback applied s).port.params = s.port.params := by
  unfold emergencyFeedback
  split <;> rfl

@[simp] theorem emergencyCheckFails_portParams : (emergencyCheckFails s).port.params = s.port.params := by
  unfold emergencyCheckFails
  split <;> simp

@[simp] theorem emergencyStopActive_portParams : (emergencyStopActive s).port.params = s.port.params := by
  unfold emergencyStopActive
  split <;> simp

@[simp] theorem emergencyStopReleased_portParams : (emergencyStopReleased s).port.params = s.port.params := rfl

@[simp] theorem tripCommand_portParams : (tripCommand s).port.params = s.port.params := by simp [tripCommand]

@[simp] theorem latchKept_portParams : (latchKept s).port.params = s.port.params := by
  unfold latchKept
  split <;> simp

@[simp] theorem clearLatch_portParams (c : TripCause) : (clearLatch c s).port.params = s.port.params := by
  simp [clearLatch, settled_announce.portParams]

@[simp] theorem resetTrip_portParams : (resetTrip s).port.params = s.port.params := by
  unfold resetTrip
  dsimp only
  split
  · rfl
  · split
    · simp
    · rfl

/-! ### The profile table leaves the words -/

@[simp] theorem setLoad_portParams : (setLoad s).port.params = s.port.params := by
  unfold setLoad
  dsimp only
  split_ifs <;> rfl

@[simp] theorem setRestriction_portParams : (setRestriction s).port.params = s.port.params := by
  unfold setRestriction
  split
  · rfl
  · split <;> rfl

@[simp] theorem unproveCommand_portParams : (unproveCommand s).port.params = s.port.params := by simp [unproveCommand]

/-! ### An unknown code and the reads leave the words -/

@[simp] theorem unknownCode_portParams (code : Byte) : (unknownCode code s).port.params = s.port.params :=
  takeSlot_portParams code

@[simp] theorem replyResult_portParams : (replyResult s).port.params = s.port.params := rfl

@[simp] theorem replyView_portParams (selector : Word32) : (replyView selector s).port.params = s.port.params := rfl

@[simp] theorem replyEvent_portParams : (replyEvent s).port.params = s.port.params := by
  unfold replyEvent
  split <;> rfl

@[simp] theorem endTransfer_portParams (bits : Nat) : (endTransfer bits s).port.params = s.port.params := by
  have ended (p : Port) (r : Reply) : (p.endRead r).params = p.params := by
    unfold Port.endRead
    split <;> rfl
  unfold endTransfer
  dsimp only
  split
  · split
    · exact ended _ _
    · rfl
  · rfl

/-! ### Every command but WRITE_PARAM and RESET_ASSERT leaves the words -/

theorem event_portParams {f : State → State} (left : (f s).port.params = s.port.params) (next : event s f = .next t) :
    t.port.params = s.port.params := by
  cases next
  split
  · exact (settled_finishWith false s).portParams.trans left
  · rfl

/-- A port command: it takes the slot, then acts (R179). -/
theorem command_portParams {f : State → State} (c : CommandName) (left : ∀ u, (f u).port.params = u.port.params)
    (next : event s (fun u => f (startCommand c u)) = .next t) : t.port.params = s.port.params :=
  event_portParams (f := fun u => f (startCommand c u)) ((left _).trans (startCommand_portParams c)) next

theorem quietEvent_portParams {f : State → State} (left : (f s).port.params = s.port.params)
    (next : quietEvent s f = .next t) : t.port.params = s.port.params := by
  cases next
  split
  · exact left
  · rfl

theorem portEvent_portParams {f : State → State} (left : (f s).port.params = s.port.params)
    (next : portEvent s f = .next t) : t.port.params = s.port.params := quietEvent_portParams (by exact left) next

theorem exec_portParams (c : Instr) (running : s.phase = .running) (notWrite : ∀ ws, c ≠ .writeParam ws)
    (notReset : c ≠ .resetAssert) (next : exec c s = .next t) : t.port.params = s.port.params := by
  cases c with
  | writeParam ws => exact absurd rfl (notWrite ws)
  | resetAssert => exact absurd rfl notReset
  | startUp slotStraps roleStraps =>
    cases next
    rw [if_neg (by simp [running])]
  | startUpComplete image pins =>
    cases next
    rw [if_neg (by simp [running])]
  | sampleTimerExpiry count =>
    cases next
    split
    · exact (settled_finishWith true s).portParams.trans (takeSample_portParams count)
    · rfl
  | lineIdle l => exact quietEvent_portParams (setIdle_portParams l true) next
  | lineStartBit l => exact quietEvent_portParams (setIdle_portParams l false) next
  | txStart l => exact quietEvent_portParams (beginFrame_portParams l) next
  | txComplete l => exact quietEvent_portParams (completeFrame_portParams l) next
  | arbitrationLost l => exact quietEvent_portParams (stopFrame_portParams l) next
  | readbackDisagreement l => exact quietEvent_portParams (stopFrame_portParams l) next
  | readResult => exact portEvent_portParams replyResult_portParams next
  | readView selector => exact portEvent_portParams (replyView_portParams selector) next
  | readEvent => exact portEvent_portParams replyEvent_portParams next
  | readTransferEnd bits => exact portEvent_portParams (endTransfer_portParams bits) next
  | listenPeriodExpiry => exact event_portParams endListen_portParams next
  | standstillTimerExpiry => exact event_portParams endStandTimer_portParams next
  | referenceSwitchActive sw count => exact event_portParams (switchActive_portParams sw count) next
  | referenceSwitchInactive sw => exact event_portParams (switchInactive_portParams sw) next
  | markerArrival code count => exact event_portParams (markerArrives_portParams code count) next
  | detectorActive d => exact event_portParams (detectorGoesActive_portParams d) next
  | detectorInactive d => exact event_portParams (detectorGoesInactive_portParams d) next
  | stuckTimerExpiry d => exact event_portParams (detectorStuck_portParams d) next
  | recomputationTimerExpiry => exact event_portParams recomputationDue_portParams next
  | frameArrival l bytes delimited => exact event_portParams (frameArrives_portParams l bytes delimited) next
  | silenceTimerExpiry l => exact event_portParams (lineSilent_portParams l) next
  | staleTimerExpiry i => exact event_portParams (recordStale_portParams i) next
  | lostTimerExpiry i => exact event_portParams (recordLost_portParams i) next
  | statusTimerExpiry => exact event_portParams statusDue_portParams next
  | loadTimerExpiry => exact event_portParams loadLapses_portParams next
  | dispatchTimerExpiry => exact event_portParams dispatchExpires_portParams next
  | consentTimerExpiry => exact event_portParams consentExpires_portParams next
  | goGuardTimerExpiry => exact event_portParams goGuardExpires_portParams next
  | doorClosedChange closed => exact event_portParams (doorChanges_portParams closed) next
  | stageFeedbackChange st applied => exact event_portParams (stageFeedback_portParams st applied) next
  | stageCheckTimerExpiry st => exact event_portParams (stageFails_portParams st) next
  | emergencyBrakeFeedbackChange applied => exact event_portParams (emergencyFeedback_portParams applied) next
  | emergencyBrakeTimerExpiry => exact event_portParams emergencyCheckFails_portParams next
  | emergencyStopInput => exact event_portParams emergencyStopActive_portParams next
  | emergencyStopInactive => exact event_portParams emergencyStopReleased_portParams next
  | unknownCommand code => exact event_portParams (unknownCode_portParams code) next
  | setPosition => exact command_portParams .setPosition (fun _ => setPosition_portParams) next
  | setLoad => exact command_portParams .setLoad (fun _ => setLoad_portParams) next
  | requestRun => exact command_portParams .requestRun (fun _ => requestRun_portParams) next
  | addHalt => exact command_portParams .addHalt (fun _ => addHalt_portParams) next
  | callLoop => exact command_portParams .callLoop (fun _ => callLoop_portParams) next
  | hold => exact command_portParams .hold (fun _ => holdLine_portParams) next
  | release => exact command_portParams .release (fun _ => releaseLine_portParams) next
  | abort => exact command_portParams .abort (fun _ => abortRun_portParams) next
  | confirmReady => exact command_portParams .confirmReady (fun _ => confirmReady_portParams) next
  | trip => exact command_portParams .trip (fun _ => tripCommand_portParams) next
  | resetTrip => exact command_portParams .resetTrip (fun _ => resetTrip_portParams) next
  | unproveAll => exact command_portParams .unproveAll (fun _ => unproveCommand_portParams) next
  | setRestriction => exact command_portParams .setRestriction (fun _ => setRestriction_portParams) next

/-! ### Start-up clears the words -/

theorem completeFaulted_portParams (f : ConfigFault) : (completeFaulted f s).port.params = s.port.params :=
  (((settled_onEnv _).trans (settled_latchTrip _)).trans ((settled_pushEvent _ _ _ _).trans settled_sendStatus)).portParams

theorem completeAccepted_portParams : (completeAccepted s).port.params = s.port.params := by
  rw [settled_completeAccepted.portParams]
  unfold startSwitch
  split_ifs <;> rfl

/-- Whatever the image, start-up leaves the words as its blocks begin, all 0 (R192). -/
theorem startUpComplete_portParams (img : List Byte) (pins : PlantPins) :
    (startUpComplete img pins s).port.params = Vector.replicate 6 0 := by
  unfold startUpComplete
  dsimp only
  rw [(settled_finishWith _ _).portParams]
  split
  · exact completeFaulted_portParams _
  · exact completeAccepted_portParams

theorem exec_startUpComplete_next (img : List Byte) (pins : PlantPins) (loading : s.phase = .loading) :
    exec (.startUpComplete img pins) s = .next (startUpComplete img pins s) := by
  show execStartUpComplete img pins s = _
  rw [execStartUpComplete, if_pos loading]

end Sys2Proof.Machine

/-! ### The obligation -/

/-- Settles O57, clause by clause: the write, the ignored transfer, start-up, and the frame of every other command. -/
theorem writeParamWritesTheFirstWords : Obligations.WriteParamWritesTheFirstWords := by
  refine ⟨fun s ws running one six => ?write, fun s ws length => exec_writeParam_ignored ws length,
    fun s img pins loading => ?startUp, fun c s t running next => ?frame⟩
  case write => exact ⟨_, writeParams_get ws, exec_writeParam_next ws running one six⟩
  case startUp =>
    refine ⟨_, exec_startUpComplete_next img pins loading, fun i => ?_⟩
    simp [startUpComplete_portParams, Vector.get_eq_getElem]
  case frame =>
    split
    · trivial
    · trivial
    · next notWrite notReset => exact exec_portParams c running notWrite notReset next
end
